-- ==== Sys2Proof/Word.lean ====
section
/-! DEFINITION. The word types of the machine: bytes, words, doublewords and quadwords (00_scope.md R15). -/

namespace Sys2Proof

/-- A byte: 8 bits (20_memory.md R80). -/
abbrev Byte := BitVec 8

/-- A word: 16 bits. -/
abbrev Word := BitVec 16

/-- A doubleword: 32 bits. -/
abbrev DWord := BitVec 32

/-- A quadword: 64 bits. -/
abbrev QWord := BitVec 64

end Sys2Proof
end

