-- ==== Sys2Proof/Machine/Bytes.lean ====
section
/-! DEFINITION. Bytes in little-endian order (20_memory.md R85, R87). -/

namespace Sys2Proof

/-- The number whose little-endian bytes these are: `MemRead` of 20_memory.md R85. -/
def leNat : List Byte → Nat
  | [] => 0
  | b :: bs => b.toNat + 256 * leNat bs

/-- The bytes of a word, low-order byte first (20_memory.md R87). -/
def le16 (v : Word) : List Byte :=
  [v.extractLsb' 0 8, v.extractLsb' 8 8]

/-- The bytes of a doubleword, low-order byte first (20_memory.md R87). -/
def le32 (v : DWord) : List Byte :=
  [v.extractLsb' 0 8, v.extractLsb' 8 8, v.extractLsb' 16 8, v.extractLsb' 24 8]

/-- A word from its bytes, low-order byte first. -/
def word16 (b0 b1 : Byte) : Word := b1 ++ b0

/-- A doubleword from its bytes, low-order byte first. -/
def word32 (b0 b1 b2 b3 : Byte) : DWord := b3 ++ b2 ++ b1 ++ b0

/-- The first `n` bytes of a number, low-order byte first, as `decodeTableWord` and `State.withFetchWord` lay an
instruction out. -/
def leBytes : Nat → Nat → List Byte
  | 0, _ => []
  | n + 1, w => BitVec.ofNat 8 w :: leBytes n (w / 256)

end Sys2Proof
end

