-- ==== Sys2Proof/Config.lean ====
section
/-! DEFINITION. What an implementation, a platform or an operating system fixes (00_scope.md R9), as plain data that a
launch state carries, and the one source of free values. -/

namespace Sys2Proof

/-- The free values of the model (00_scope.md R15 `draw(N)`): the n-th value drawn in a run. It has no body, so nothing
can be proved about any of its values (log 7). -/
opaque Config.freeWord : Nat → DWord

/-- What a physical byte holds that neither the launch state nor the program has given: `draw(8)`, fixed for the launch
(20_memory.md R82; log 3). It has no body. -/
opaque Config.freeByte : Nat → Byte

/-- What the configuration holds for a CPUID leaf that the launch's table does not list, by leaf and register (0 EAX, 1 EBX,
2 ECX, 3 EDX), the same at every execution (47_cpuid.md R330, R332; log 21). It has no
body. -/
opaque Config.freeCpuid : DWord → Nat → DWord

/-- The system environment of a run (00_scope.md R1, R9; 92_eei_decisions.md D1). -/
inductive Env where
  | itaniumSE
  | ia32SE
deriving DecidableEq, Repr

/-- A choice an implementation makes for good, or anew at each execution (`cmov_false_loads` and `bt_access_width` of
00_scope.md R9: "Bool or per-execution draw", "per-execution draw"). -/
inductive Choice where
  | never
  | always
  | perExecution
deriving DecidableEq, Repr

/-- `bound_upper_slack` (00_scope.md R9; 42_protection_bounds.md R223). -/
inductive BoundSlack where
  | operandBytes
  | zero
deriving DecidableEq, Repr

/-- `bcd_variant` (00_scope.md R9; 40_bcd_adjust.md R170, R173, R175). -/
inductive BcdVariant where
  | source
  | laterEdition
deriving DecidableEq, Repr

/-- The four registers a CPUID leaf returns (47_cpuid.md R330). -/
structure CpuidRow where
  eax : DWord
  ebx : DWord
  ecx : DWord
  edx : DWord
deriving DecidableEq, Repr

/-- The `cpuid` configuration record (47_cpuid.md R330, R332). -/
structure CpuidConfig where
  maxBasic : DWord
  maxExtended : DWord
  leaves : List (DWord × CpuidRow)
deriving DecidableEq, Repr

/-- The kinds of memory access (20_memory.md R95, R100). -/
inductive AccessKind where
  | fetch
  | read
  | write
deriving DecidableEq, Repr

/-- The instruction-side Itanium memory faults (60_exceptions.md R361; 20_memory.md R100). -/
inductive InstrMemFault where
  | alternativeTlb
  | vhpt
  | tlb
  | pageNotPresent
  | natPageConsumption
  | keyMiss
  | keyPermission
  | accessRights
  | accessBit
deriving DecidableEq, Repr

/-- The data-side Itanium memory faults a read can raise (60_exceptions.md R361; 20_memory.md R100). -/
inductive DataMemFault where
  | nestedTlb
  | alternativeTlb
  | vhpt
  | tlb
  | pageNotPresent
  | natPageConsumption
  | keyMiss
  | keyPermission
  | accessRights
  | accessBit
deriving DecidableEq, Repr

/-- The faults a write can raise: those of a read, and the Data Dirty bit fault, which "can arise only for
`kind = write`" (20_memory.md R100). -/
inductive WriteMemFault where
  | data (f : DataMemFault)
  | dirtyBit
deriving DecidableEq, Repr

/-- What `Translate` answers for one page and one kind of access: a physical page or a fault (20_memory.md R100). -/
inductive PageResult (φ : Type) where
  | frame (page : Nat)
  | fault (f : φ)
deriving DecidableEq, Repr

/-- One page of the `Translate` oracle (20_memory.md R100): a linear page and its answer for each kind of access. -/
structure PageEntry where
  page : Nat
  fetch : PageResult InstrMemFault
  read : PageResult DataMemFault
  write : PageResult WriteMemFault
deriving DecidableEq, Repr

/-- Which physical pages hold memory, and what `Translate` answers for an access to any other page, by its kind
(20_memory.md R108; 93_implementation_defined.md U13; log 4). -/
structure MemoryMap where
  /-- The populated physical pages; `none` where every page is populated. -/
  populated : Option (List Nat)
  fetchFault : InstrMemFault
  readFault : DataMemFault
  writeFault : WriteMemFault
deriving DecidableEq, Repr

/-- The instructions a LOCK prefix is legal on (20_memory.md R107). -/
inductive LockOp where
  | adc
  | add
  | and
  | btc
  | btr
  | bts
  | cmpxchg
  | cmpxchg8b
  | dec
deriving DecidableEq, Repr

/-- A point where `External_Atomic_Lock_Required` holds: an instruction, the linear address and the size in bytes of its
operand (00_scope.md R9; the memory attribute is a function of the address; log 20). -/
structure LockSite where
  op : LockOp
  la : DWord
  bytes : Nat
deriving DecidableEq, Repr

/-- The configuration record of 00_scope.md R9: launch parameters, fixed for a run, which no step writes (log 5). -/
structure LaunchConfig where
  env : Env
  cmovFalseLoads : Choice
  /-- `never`: one byte; `always`: the operand's width (43_bit_scan_test.md R238). -/
  btWideAccess : Choice
  boundSlack : BoundSlack
  bcdVariant : BcdVariant
  lockInterceptAll : Bool
  lockRequired : List LockSite
  cpuid : CpuidConfig
  /-- The `Translate` oracle; a page it does not list has the physical page of its own number (log 4). -/
  pages : List PageEntry
  /-- A page is 2 to this power bytes (log 4). -/
  pageShift : Nat
  /-- The populated physical pages (20_memory.md R108; log 4). -/
  memory : MemoryMap
  /-- `end_eip` (70_reset_and_hazards.md R404); `none` where a run has none (log 12). -/
  endEip : Option DWord
deriving DecidableEq, Repr

end Sys2Proof
end

