-- ==== Sys2Proof/Syntax.lean ====
section
/-! DEFINITION. The instructions of spec/opcode_table.json, one constructor per row in the table's order, over the
operands of 30_encoding.md R121 to R134. An instruction holds what it means, not how it was spelled: prefixes that
change nothing, the choice among equal addressing encodings and the length are the decoder's (log 30). -/

namespace Sys2Proof

/-- The general registers (10_state.md R30); where an operand is 16 bits wide, their low words (R31). -/
inductive Reg where
  | eax
  | ecx
  | edx
  | ebx
  | esp
  | ebp
  | esi
  | edi
deriving DecidableEq, Repr

/-- The byte registers (10_state.md R32). -/
inductive Reg8 where
  | al
  | cl
  | dl
  | bl
  | ah
  | ch
  | dh
  | bh
deriving DecidableEq, Repr

/-- The segment registers (10_state.md R51). -/
inductive SegReg where
  | es
  | cs
  | ss
  | ds
  | fs
  | gs
deriving DecidableEq, Repr

/-- An operand-size, address-size or stack-address-size attribute: 16 or 32 (00_scope.md R12). -/
inductive OpSize where
  | s16
  | s32
deriving DecidableEq, Repr

/-- The register sums of the 16-bit addressing forms (30_encoding.md R126), in the order of their `rm` codes. -/
inductive Base16 where
  | bxSi
  | bxDi
  | bpSi
  | bpDi
  | si
  | di
  | bp
  | bx
deriving DecidableEq, Repr

/-- An effective address (30_encoding.md R124, R125, R126). A displacement stands at its full width: an 8-bit one is
sign-extended by the decoder (R127). The index's number is the SIB scale: the index counts `2^scale` times. -/
inductive EffAddr where
  | a16 (base : Option Base16) (disp : Word)
  | a32 (base : Option Reg) (index : Option (Reg × BitVec 2)) (disp : DWord)
deriving DecidableEq, Repr

/-- A memory operand: the segment actually used, after defaults and overrides (30_encoding.md R133), and the effective
address. -/
structure MemOp where
  seg : SegReg
  ea : EffAddr
deriving DecidableEq, Repr

/-- An `r/m8` operand (30_encoding.md R134). -/
inductive RM8 where
  | reg (r : Reg8)
  | mem (m : MemOp)
deriving DecidableEq, Repr

/-- An `r/m16` or `r/m32` operand (30_encoding.md R134). -/
inductive RM where
  | reg (r : Reg)
  | mem (m : MemOp)
deriving DecidableEq, Repr

/-- The instructions of the table. `lock` says whether a LOCK prefix stands before an instruction it is legal on
(20_memory.md R107). -/
inductive Instr where
  /-- AAA, `37` (R170). -/
  | aaa
  /-- AAD, `D5 0A` (R171). -/
  | aad (imm : Byte)
  /-- AAM, `D4 0A` (R172). -/
  | aam (imm : Byte)
  /-- AAS, `3F` (R173). -/
  | aas
  /-- ADC, `14 ib` (R190). -/
  | adcAlIb (imm : Byte)
  /-- ADC, `15 iw` (R190). -/
  | adcAxIw (imm : Word)
  /-- ADC, `15 id` (R190). -/
  | adcEaxId (imm : DWord)
  /-- ADC, `80 /2 ib` (R190). -/
  | adcRm8Ib (lock : Bool) (rm : RM8) (imm : Byte)
  /-- ADC, `81 /2 iw` (R190). -/
  | adcRm16Iw (lock : Bool) (rm : RM) (imm : Word)
  /-- ADC, `81 /2 id` (R190). -/
  | adcRm32Id (lock : Bool) (rm : RM) (imm : DWord)
  /-- ADC, `83 /2 ib` (R190). -/
  | adcRm16Ib (lock : Bool) (rm : RM) (imm : Byte)
  /-- ADC, `83 /2 ib` (R190). -/
  | adcRm32Ib (lock : Bool) (rm : RM) (imm : Byte)
  /-- ADC, `10 /r` (R190). -/
  | adcRm8R8 (lock : Bool) (rm : RM8) (r : Reg8)
  /-- ADC, `11 /r` (R190). -/
  | adcRm16R16 (lock : Bool) (rm : RM) (r : Reg)
  /-- ADC, `11 /r` (R190). -/
  | adcRm32R32 (lock : Bool) (rm : RM) (r : Reg)
  /-- ADC, `12 /r` (R190). -/
  | adcR8Rm8 (r : Reg8) (rm : RM8)
  /-- ADC, `13 /r` (R190). -/
  | adcR16Rm16 (r : Reg) (rm : RM)
  /-- ADC, `13 /r` (R190). -/
  | adcR32Rm32 (r : Reg) (rm : RM)
  /-- ADD, `04 ib` (R191). -/
  | addAlIb (imm : Byte)
  /-- ADD, `05 iw` (R191). -/
  | addAxIw (imm : Word)
  /-- ADD, `05 id` (R191). -/
  | addEaxId (imm : DWord)
  /-- ADD, `80 /0 ib` (R191). -/
  | addRm8Ib (lock : Bool) (rm : RM8) (imm : Byte)
  /-- ADD, `81 /0 iw` (R191). -/
  | addRm16Iw (lock : Bool) (rm : RM) (imm : Word)
  /-- ADD, `81 /0 id` (R191). -/
  | addRm32Id (lock : Bool) (rm : RM) (imm : DWord)
  /-- ADD, `83 /0 ib` (R191). -/
  | addRm16Ib (lock : Bool) (rm : RM) (imm : Byte)
  /-- ADD, `83 /0 ib` (R191). -/
  | addRm32Ib (lock : Bool) (rm : RM) (imm : Byte)
  /-- ADD, `00 /r` (R191). -/
  | addRm8R8 (lock : Bool) (rm : RM8) (r : Reg8)
  /-- ADD, `01 /r` (R191). -/
  | addRm16R16 (lock : Bool) (rm : RM) (r : Reg)
  /-- ADD, `01 /r` (R191). -/
  | addRm32R32 (lock : Bool) (rm : RM) (r : Reg)
  /-- ADD, `02 /r` (R191). -/
  | addR8Rm8 (r : Reg8) (rm : RM8)
  /-- ADD, `03 /r` (R191). -/
  | addR16Rm16 (r : Reg) (rm : RM)
  /-- ADD, `03 /r` (R191). -/
  | addR32Rm32 (r : Reg) (rm : RM)
  /-- AND, `24 ib` (R192). -/
  | andAlIb (imm : Byte)
  /-- AND, `25 iw` (R192). -/
  | andAxIw (imm : Word)
  /-- AND, `25 id` (R192). -/
  | andEaxId (imm : DWord)
  /-- AND, `80 /4 ib` (R192). -/
  | andRm8Ib (lock : Bool) (rm : RM8) (imm : Byte)
  /-- AND, `81 /4 iw` (R192). -/
  | andRm16Iw (lock : Bool) (rm : RM) (imm : Word)
  /-- AND, `81 /4 id` (R192). -/
  | andRm32Id (lock : Bool) (rm : RM) (imm : DWord)
  /-- AND, `83 /4 ib` (R192). -/
  | andRm16Ib (lock : Bool) (rm : RM) (imm : Byte)
  /-- AND, `83 /4 ib` (R192). -/
  | andRm32Ib (lock : Bool) (rm : RM) (imm : Byte)
  /-- AND, `20 /r` (R192). -/
  | andRm8R8 (lock : Bool) (rm : RM8) (r : Reg8)
  /-- AND, `21 /r` (R192). -/
  | andRm16R16 (lock : Bool) (rm : RM) (r : Reg)
  /-- AND, `21 /r` (R192). -/
  | andRm32R32 (lock : Bool) (rm : RM) (r : Reg)
  /-- AND, `22 /r` (R192). -/
  | andR8Rm8 (r : Reg8) (rm : RM8)
  /-- AND, `23 /r` (R192). -/
  | andR16Rm16 (r : Reg) (rm : RM)
  /-- AND, `23 /r` (R192). -/
  | andR32Rm32 (r : Reg) (rm : RM)
  /-- ARPL, `63 /r` (R221). -/
  | arpl (rm : RM) (r : Reg)
  /-- BOUND, `62 /r` (R223). -/
  | boundR16 (r : Reg) (m : MemOp)
  /-- BOUND, `62 /r` (R223). -/
  | boundR32 (r : Reg) (m : MemOp)
  /-- BSF, `0F BC` (R230). -/
  | bsfR16Rm16 (r : Reg) (rm : RM)
  /-- BSF, `0F BC` (R230). -/
  | bsfR32Rm32 (r : Reg) (rm : RM)
  /-- BSR, `0F BD` (R231). -/
  | bsrR16Rm16 (r : Reg) (rm : RM)
  /-- BSR, `0F BD` (R231). -/
  | bsrR32Rm32 (r : Reg) (rm : RM)
  /-- BSWAP, `0F C8+rd` (R233). -/
  | bswap (size : OpSize) (r : Reg)
  /-- BT, `0F A3` (R239). -/
  | btRm16R16 (rm : RM) (r : Reg)
  /-- BT, `0F A3` (R239). -/
  | btRm32R32 (rm : RM) (r : Reg)
  /-- BT, `0F BA /4 ib` (R239). -/
  | btRm16Ib (rm : RM) (imm : Byte)
  /-- BT, `0F BA /4 ib` (R239). -/
  | btRm32Ib (rm : RM) (imm : Byte)
  /-- BTC, `0F BB` (R240). -/
  | btcRm16R16 (lock : Bool) (rm : RM) (r : Reg)
  /-- BTC, `0F BB` (R240). -/
  | btcRm32R32 (lock : Bool) (rm : RM) (r : Reg)
  /-- BTC, `0F BA /7 ib` (R240). -/
  | btcRm16Ib (lock : Bool) (rm : RM) (imm : Byte)
  /-- BTC, `0F BA /7 ib` (R240). -/
  | btcRm32Ib (lock : Bool) (rm : RM) (imm : Byte)
  /-- BTR, `0F B3` (R241). -/
  | btrRm16R16 (lock : Bool) (rm : RM) (r : Reg)
  /-- BTR, `0F B3` (R241). -/
  | btrRm32R32 (lock : Bool) (rm : RM) (r : Reg)
  /-- BTR, `0F BA /6 ib` (R241). -/
  | btrRm16Ib (lock : Bool) (rm : RM) (imm : Byte)
  /-- BTR, `0F BA /6 ib` (R241). -/
  | btrRm32Ib (lock : Bool) (rm : RM) (imm : Byte)
  /-- BTS, `0F AB` (R242). -/
  | btsRm16R16 (lock : Bool) (rm : RM) (r : Reg)
  /-- BTS, `0F AB` (R242). -/
  | btsRm32R32 (lock : Bool) (rm : RM) (r : Reg)
  /-- BTS, `0F BA /5 ib` (R242). -/
  | btsRm16Ib (lock : Bool) (rm : RM) (imm : Byte)
  /-- BTS, `0F BA /5 ib` (R242). -/
  | btsRm32Ib (lock : Bool) (rm : RM) (imm : Byte)
  /-- CALL, `E8 cw` (R251). -/
  | callRel16 (rel : Word)
  /-- CALL, `E8 cd` (R251). -/
  | callRel32 (rel : DWord)
  /-- CALL, `FF /2` (R252). -/
  | callRm16 (rm : RM)
  /-- CALL, `FF /2` (R252). -/
  | callRm32 (rm : RM)
  /-- CALL, `9A cd` (R254). -/
  | callPtr16 (sel : Word) (off : Word)
  /-- CALL, `9A cp` (R254). -/
  | callPtr32 (sel : Word) (off : DWord)
  /-- CALL, `FF /3` (R255). -/
  | callM16x16 (m : MemOp)
  /-- CALL, `FF /3` (R255). -/
  | callM16x32 (m : MemOp)
  /-- CBW, `98` (R280). -/
  | cbw
  /-- CWDE, `98` (R282). -/
  | cwde
  /-- CLC, `F8` (R284). -/
  | clc
  /-- CLD, `FC` (R285). -/
  | cld
  /-- CLI, `FA` (R290). -/
  | cli
  /-- CLTS, `0F 06` (R292). -/
  | clts
  /-- CMC, `F5` (R286). -/
  | cmc
  /-- CMOVO, `0F 40 /r` (R302). -/
  | cmovO16 (r : Reg) (rm : RM)
  /-- CMOVO, `0F 40 /r` (R302). -/
  | cmovO32 (r : Reg) (rm : RM)
  /-- CMOVNO, `0F 41 /r` (R303). -/
  | cmovNo16 (r : Reg) (rm : RM)
  /-- CMOVNO, `0F 41 /r` (R303). -/
  | cmovNo32 (r : Reg) (rm : RM)
  /-- CMOVB, `0F 42 /r` (R304). -/
  | cmovB16 (r : Reg) (rm : RM)
  /-- CMOVB, `0F 42 /r` (R304). -/
  | cmovB32 (r : Reg) (rm : RM)
  /-- CMOVAE, `0F 43 /r` (R305). -/
  | cmovAe16 (r : Reg) (rm : RM)
  /-- CMOVAE, `0F 43 /r` (R305). -/
  | cmovAe32 (r : Reg) (rm : RM)
  /-- CMOVE, `0F 44 /r` (R306). -/
  | cmovE16 (r : Reg) (rm : RM)
  /-- CMOVE, `0F 44 /r` (R306). -/
  | cmovE32 (r : Reg) (rm : RM)
  /-- CMOVNE, `0F 45 /r` (R307). -/
  | cmovNe16 (r : Reg) (rm : RM)
  /-- CMOVNE, `0F 45 /r` (R307). -/
  | cmovNe32 (r : Reg) (rm : RM)
  /-- CMOVBE, `0F 46 /r` (R308). -/
  | cmovBe16 (r : Reg) (rm : RM)
  /-- CMOVBE, `0F 46 /r` (R308). -/
  | cmovBe32 (r : Reg) (rm : RM)
  /-- CMOVA, `0F 47 /r` (R309). -/
  | cmovA16 (r : Reg) (rm : RM)
  /-- CMOVA, `0F 47 /r` (R309). -/
  | cmovA32 (r : Reg) (rm : RM)
  /-- CMOVS, `0F 48 /r` (R310). -/
  | cmovS16 (r : Reg) (rm : RM)
  /-- CMOVS, `0F 48 /r` (R310). -/
  | cmovS32 (r : Reg) (rm : RM)
  /-- CMOVNS, `0F 49 /r` (R311). -/
  | cmovNs16 (r : Reg) (rm : RM)
  /-- CMOVNS, `0F 49 /r` (R311). -/
  | cmovNs32 (r : Reg) (rm : RM)
  /-- CMOVP, `0F 4A /r` (R312). -/
  | cmovP16 (r : Reg) (rm : RM)
  /-- CMOVP, `0F 4A /r` (R312). -/
  | cmovP32 (r : Reg) (rm : RM)
  /-- CMOVNP, `0F 4B /r` (R313). -/
  | cmovNp16 (r : Reg) (rm : RM)
  /-- CMOVNP, `0F 4B /r` (R313). -/
  | cmovNp32 (r : Reg) (rm : RM)
  /-- CMOVL, `0F 4C /r` (R314). -/
  | cmovL16 (r : Reg) (rm : RM)
  /-- CMOVL, `0F 4C /r` (R314). -/
  | cmovL32 (r : Reg) (rm : RM)
  /-- CMOVGE, `0F 4D /r` (R315). -/
  | cmovGe16 (r : Reg) (rm : RM)
  /-- CMOVGE, `0F 4D /r` (R315). -/
  | cmovGe32 (r : Reg) (rm : RM)
  /-- CMOVLE, `0F 4E /r` (R316). -/
  | cmovLe16 (r : Reg) (rm : RM)
  /-- CMOVLE, `0F 4E /r` (R316). -/
  | cmovLe32 (r : Reg) (rm : RM)
  /-- CMOVG, `0F 4F /r` (R317). -/
  | cmovG16 (r : Reg) (rm : RM)
  /-- CMOVG, `0F 4F /r` (R317). -/
  | cmovG32 (r : Reg) (rm : RM)
  /-- CMP, `3C ib` (R193). -/
  | cmpAlIb (imm : Byte)
  /-- CMP, `3D iw` (R193). -/
  | cmpAxIw (imm : Word)
  /-- CMP, `3D id` (R193). -/
  | cmpEaxId (imm : DWord)
  /-- CMP, `80 /7 ib` (R193). -/
  | cmpRm8Ib (rm : RM8) (imm : Byte)
  /-- CMP, `81 /7 iw` (R193). -/
  | cmpRm16Iw (rm : RM) (imm : Word)
  /-- CMP, `81 /7 id` (R193). -/
  | cmpRm32Id (rm : RM) (imm : DWord)
  /-- CMP, `83 /7 ib` (R193). -/
  | cmpRm16Ib (rm : RM) (imm : Byte)
  /-- CMP, `83 /7 ib` (R193). -/
  | cmpRm32Ib (rm : RM) (imm : Byte)
  /-- CMP, `38 /r` (R193). -/
  | cmpRm8R8 (rm : RM8) (r : Reg8)
  /-- CMP, `39 /r` (R193). -/
  | cmpRm16R16 (rm : RM) (r : Reg)
  /-- CMP, `39 /r` (R193). -/
  | cmpRm32R32 (rm : RM) (r : Reg)
  /-- CMP, `3A /r` (R193). -/
  | cmpR8Rm8 (r : Reg8) (rm : RM8)
  /-- CMP, `3B /r` (R193). -/
  | cmpR16Rm16 (r : Reg) (rm : RM)
  /-- CMP, `3B /r` (R193). -/
  | cmpR32Rm32 (r : Reg) (rm : RM)
  /-- CMPSB, `A6` (R323). -/
  | cmpsb (addr : OpSize) (seg : SegReg)
  /-- CMPSW, `A7` (R324). -/
  | cmpsw (addr : OpSize) (seg : SegReg)
  /-- CMPSD, `A7` (R325). -/
  | cmpsd (addr : OpSize) (seg : SegReg)
  /-- CMPXCHG, `0F B0/r` (R318). -/
  | cmpxchgRm8R8 (lock : Bool) (rm : RM8) (r : Reg8)
  /-- CMPXCHG, `0F B1/r` (R318). -/
  | cmpxchgRm16R16 (lock : Bool) (rm : RM) (r : Reg)
  /-- CMPXCHG, `0F B1/r` (R318). -/
  | cmpxchgRm32R32 (lock : Bool) (rm : RM) (r : Reg)
  /-- CMPXCHG8B, `0F C7 /1 m64` (R321). -/
  | cmpxchg8b (lock : Bool) (m : MemOp)
  /-- CPUID, `0F A2` (R330). -/
  | cpuid
  /-- CWD, `99` (R281). -/
  | cwd
  /-- CDQ, `99` (R283). -/
  | cdq
  /-- DAA, `27` (R174). -/
  | daa
  /-- DAS, `2F` (R175). -/
  | das
  /-- DEC, `FE /1` (R194). -/
  | decRm8 (lock : Bool) (rm : RM8)
  /-- DEC, `FF /1` (R194). -/
  | decRm16 (lock : Bool) (rm : RM)
  /-- DEC, `FF /1` (R194). -/
  | decRm32 (lock : Bool) (rm : RM)
  /-- DEC, `48+rw` (R194). -/
  | decR16 (r : Reg)
  /-- DEC, `48+rd` (R194). -/
  | decR32 (r : Reg)
  /-- DIV, `F6 /6` (R195). -/
  | divRm8 (rm : RM8)
  /-- DIV, `F7 /6` (R195). -/
  | divRm16 (rm : RM)
  /-- DIV, `F7 /6` (R195). -/
  | divRm32 (rm : RM)
deriving DecidableEq, Repr

end Sys2Proof
end

