-- ==== Sys2Proof/Machine/State.lean ====
section
/-! DEFINITION. The state of the machine, as plain data, with everything the spec gives it (10_state.md R66), the events
a step can stop with (60_exceptions.md R363) and the launch state that stands for reset (10_state.md R69). -/

namespace Sys2Proof.Machine

/-- One value for each general register (10_state.md R30). -/
structure RegFile (α : Type) where
  eax : α
  ecx : α
  edx : α
  ebx : α
  esp : α
  ebp : α
  esi : α
  edi : α
deriving DecidableEq, Repr

/-- The six status flags, CF, PF, AF, ZF, SF and OF (10_state.md R39). -/
structure StatusFlags where
  cf : Bool
  pf : Bool
  af : Bool
  zf : Bool
  sf : Bool
  ofl : Bool
deriving DecidableEq, Repr

/-- The control flag DF and the system flags of EFLAGS: IF (`ifl`), IOPL, VM, VIF, VIP, ID (`idf`) of 10_state.md R39, and
TF, NT, RF, AC of R40. -/
structure SystemFlags where
  df : Bool
  ifl : Bool
  iopl : BitVec 2
  vm : Bool
  vif : Bool
  vip : Bool
  idf : Bool
  tf : Bool
  nt : Bool
  rf : Bool
  ac : Bool
deriving DecidableEq, Repr

/-- A segment register with its descriptor part (10_state.md R52): `limit` is the last valid offset, `big` is D for CS and
B for the others. -/
structure Segment where
  selector : Word
  base : DWord
  limit : DWord
  present : Bool
  writable : Bool
  readable : Bool
  executable : Bool
  expandDown : Bool
  big : Bool
  dpl : BitVec 2
  conforming : Bool
deriving DecidableEq, Repr

/-- The six segment registers (10_state.md R51). -/
structure SegFile where
  es : Segment
  cs : Segment
  ss : Segment
  ds : Segment
  fs : Segment
  gs : Segment
deriving DecidableEq, Repr

/-- GDTR and IDTR (10_state.md R55). -/
structure TableReg where
  base : DWord
  limit : Word
deriving DecidableEq, Repr

/-- LDTR (10_state.md R55). -/
structure LdtReg where
  selector : Word
  base : DWord
  limit : DWord
  present : Bool
deriving DecidableEq, Repr

/-- The task register (10_state.md R55); `is32` says whether the current TSS is a 32-bit one, which 44_call.md R264 asks
(log 19). -/
structure TaskReg where
  selector : Word
  base : DWord
  limit : DWord
  is32 : Bool
deriving DecidableEq, Repr

/-- CR0 (10_state.md R56). -/
structure Cr0 where
  pe : Bool
  ts : Bool
  am : Bool
  pg : Bool
deriving DecidableEq, Repr

/-- CR4 (10_state.md R57). -/
structure Cr4 where
  vme : Bool
  pvi : Bool
  tsd : Bool
  de : Bool
  pse : Bool
  pae : Bool
  mce : Bool
  pge : Bool
  osfxsr : Bool
deriving DecidableEq, Repr

/-- The fields of the Itanium processor status register the pages name (10_state.md R59). -/
structure Psr where
  dfl : Bool
  dfh : Bool
  tb : Bool
  i : Bool
deriving DecidableEq, Repr

/-- The fields of CFLG the pages name (10_state.md R60): CFLG.if (`ifl`) and CFLG.ii. -/
structure Cflg where
  ifl : Bool
  ii : Bool
deriving DecidableEq, Repr

/-- The bits of the control registers that no rule names, carried as opaque launch values that no rule reads or writes
(93_implementation_defined.md U14; log 17). -/
structure UnnamedBits where
  eflags : Nat
  cr0 : Nat
  cr4 : Nat
  psr : Nat
  cflg : Nat
  dcr : Nat
deriving DecidableEq, Repr

/-- The whole state of the machine (10_state.md R66, 20_memory.md R80), with the launch configuration it runs under
(00_scope.md R9). -/
structure State where
  regs : RegFile DWord
  /-- The NaT bits (10_state.md R34). -/
  nat : RegFile Bool
  /-- EIP: the offset of the instruction's first byte (10_state.md R35). -/
  pc : DWord
  /-- The offset after the instruction being executed (10_state.md R35, R37; log 14). -/
  nextPc : DWord
  status : StatusFlags
  flags : SystemFlags
  segs : SegFile
  cpl : BitVec 2
  gdtr : TableReg
  idtr : TableReg
  ldtr : LdtReg
  tr : TaskReg
  cr0 : Cr0
  cr4 : Cr4
  psr : Psr
  cflg : Cflg
  /-- DCR.lc (10_state.md R61). -/
  dcrLc : Bool
  /-- `first_after_entry` (10_state.md R64). -/
  firstAfterEntry : Bool
  unnamed : UnnamedBits
  /-- Physical memory, in canonical form (`Memory.wf`, log 3). -/
  mem : List Host.Cell
  /-- The physical bytes stored since the last CPUID, rising (20_memory.md R112; log 13). -/
  stored : List Nat
  /-- How many free values have been drawn: the model's own field (log 7). -/
  draws : Nat
  cfg : LaunchConfig
deriving DecidableEq, Repr

/-- The IA-32 exceptions (60_exceptions.md R350, Table 2-2). -/
inductive Exception where
  | de
  | db
  | bp
  | of
  | br
  | ud
  | nm
  | df
  | ts
  | np
  | ss
  | gp
  | pf
  | mf
  | ac
  | mc
deriving DecidableEq, Repr

/-- The intercepts that are faults (60_exceptions.md R358), each with the instruction it hands over. -/
inductive Intercept where
  /-- `IA-32_Intercept(Gate, CALL)` (44_call.md R262). -/
  | gateCall
  /-- `IA-32_Intercept(INST, CLTS)` (45_convert_and_flag_control.md R292). -/
  | instClts
  /-- `IA-32_Intercept(LOCK, …)` (20_memory.md R106). -/
  | lock (op : LockOp)
deriving DecidableEq, Repr

/-- The Itanium faults (60_exceptions.md R360 to R362, R364). -/
inductive ItaniumFault where
  | instrMem (f : InstrMemFault)
  | dataMem (f : WriteMemFault)
  | natConsumption
  | disabledFpRegister
deriving DecidableEq, Repr

/-- The linear address and the kind of the access that a fault reports (20_memory.md R101, 60_exceptions.md R354). -/
structure AccessPoint where
  la : DWord
  kind : AccessKind
deriving DecidableEq, Repr

/-- Why a run ends (60_exceptions.md R363, 70_reset_and_hazards.md R404): the event record {kind, vector, error code, ip,
address} of R363. The kind is the constructor, the vector `Exception.vector`. -/
inductive Fault where
  /-- An IA-32 exception that is a fault (R350, R352): raised by the checks of an access, by fetching and decoding, and by
  the instructions that name it. The state is that before the instruction, `ip` its first byte. In the Itanium System
  Environment it is the same event, delivered as IA_32_Exception (R356). Safe: the run stops. -/
  | exception (e : Exception) (code : Option Word) (ip : DWord) (address : Option AccessPoint)
  /-- An intercept that is a fault (R358): raised by far CALL, CLTS and the lock intercept. Safe: the run stops. -/
  | intercept (k : Intercept) (ip : DWord)
  /-- An Itanium fault (R361, R362, R364): raised by translation, by a read of a register whose NaT bit is set, and at the
  first instruction after entry when PSR.dfh is 1. Safe: the run stops. -/
  | itanium (f : ItaniumFault) (ip : DWord) (address : Option AccessPoint)
  /-- The taken-branch debug trap, #DB, vector 1 (R359): raised by a completed CALL; `after` is the state after the CALL,
  whose `pc` is the reported ip (R352). Safe: the run stops and no effect is lost. -/
  | debugTrap (after : State)
  /-- `IA-32_Intercept(System_Flag, CLI)` (R358): raised by a CLI that changed IF; `after` is the state after the CLI, whose
  `pc` is the reported ip. Safe: the run stops and no effect is lost. -/
  | systemFlagTrap (after : State)
  /-- The end of a run: `pc = end_eip` before a fetch (70_reset_and_hazards.md R404 (b)). Raised by fetching only. Safe: it
  is a success, not an error. -/
  | runEnded
deriving DecidableEq, Repr

/-- Why the model has no meaning for what it met (70_reset_and_hazards.md R404 (c)). -/
inductive Refusal where
  /-- An instruction of the table whose meaning is not written: raised by `exec` only; no arm does. Safe. -/
  | notModelled (mnemonic : String)
  /-- An opcode of no captured page (30_encoding.md R135, R139): raised by decoding; `twoByte` says whether the escape byte
  0FH stands before `opcode`. Safe. -/
  | opcodeOutOfScope (twoByte : Bool) (opcode : Nat)
  /-- A prefix F2H or F3H (30_encoding.md R132, 46_cmov_string_cmpxchg.md R326): raised by decoding. Safe. -/
  | repPrefix
  /-- SWITCH-TASKS, which no source defines (44_call.md R266, R267): raised by far CALL after its printed checks. Safe. -/
  | taskSwitch
  /-- A fetch of a byte stored since the last CPUID (20_memory.md R112, 70_reset_and_hazards.md R410): raised by fetching.
  Safe. -/
  | modifiedCode
deriving DecidableEq, Repr

/-- The launch state's code segment: flat, 32-bit, privilege level 0 (log 2). -/
def Segment.flatCode : Segment :=
  { selector := 0x0008, base := 0, limit := 0xFFFFFFFF, present := true, writable := false, readable := true,
    executable := true, expandDown := false, big := true, dpl := 0, conforming := false }

/-- The launch state's data and stack segments: flat, 32-bit, privilege level 0 (log 2). -/
def Segment.flatData : Segment :=
  { selector := 0x0010, base := 0, limit := 0xFFFFFFFF, present := true, writable := true, readable := true,
    executable := false, expandDown := false, big := true, dpl := 0, conforming := false }

/-- The launch configuration of the reset state (00_scope.md R9; log 6). -/
def resetConfig : LaunchConfig :=
  { env := .ia32SE, cmovFalseLoads := .never, btWideAccess := .never, boundSlack := .operandBytes, bcdVariant := .source,
    lockInterceptAll := false, lockRequired := [],
    cpuid := { maxBasic := 2, maxExtended := 0x80000004, leaves := [] },
    pages := [], pageShift := 12,
    memory :=
      { populated := none, fetchFault := .pageNotPresent, readFault := .pageNotPresent,
        writeFault := .data .pageNotPresent },
    endEip := none }

/-- The machine at the start of a run. No source gives a reset value (10_state.md R69, 70_reset_and_hazards.md R400); this
launch state meets the premises of 70_reset_and_hazards.md R403, with the values of logs 1, 2, 3 and 6. -/
def State.reset : State :=
  { regs := { eax := 0, ecx := 0, edx := 0, ebx := 0, esp := 0, ebp := 0, esi := 0, edi := 0 },
    nat :=
      { eax := false, ecx := false, edx := false, ebx := false, esp := false, ebp := false, esi := false, edi := false },
    pc := 0x00001000, nextPc := 0x00001000,
    status := { cf := false, pf := false, af := false, zf := false, sf := false, ofl := false },
    flags :=
      { df := false, ifl := false, iopl := 0, vm := false, vif := false, vip := false, idf := false, tf := false,
        nt := false, rf := false, ac := false },
    segs :=
      { es := .flatData, cs := .flatCode, ss := .flatData, ds := .flatData, fs := .flatData, gs := .flatData },
    cpl := 0,
    gdtr := { base := 0, limit := 0 }, idtr := { base := 0, limit := 0 },
    ldtr := { selector := 0, base := 0, limit := 0, present := false },
    tr := { selector := 0, base := 0, limit := 0, is32 := false },
    cr0 := { pe := true, ts := false, am := false, pg := false },
    cr4 :=
      { vme := false, pvi := false, tsd := false, de := false, pse := false, pae := false, mce := false, pge := false,
        osfxsr := false },
    psr := { dfl := false, dfh := false, tb := false, i := false },
    cflg := { ifl := false, ii := false },
    dcrLc := false, firstAfterEntry := true,
    unnamed := { eflags := 0, cr0 := 0, cr4 := 0, psr := 0, cflg := 0, dcr := 0 },
    mem := [], stored := [], draws := 0, cfg := resetConfig }

end Sys2Proof.Machine
end

