-- ==== Sys2Proof/Machine/Ops.lean ====
section
/-! DEFINITION. The shared operations: raising an event, the register file, memory, translation, segment-relative access,
the stack, free values and the instruction pointer. -/

namespace Sys2Proof

/-! ## Registers and sizes -/

/-- The register a byte register is part of (10_state.md R32). -/
def Reg8.parent : Reg8 → Reg
  | .al => .eax
  | .cl => .ecx
  | .dl => .edx
  | .bl => .ebx
  | .ah => .eax
  | .ch => .ecx
  | .dh => .edx
  | .bh => .ebx

/-- Whether a byte register is bits 15:8 of its register; else it is bits 7:0 (10_state.md R32). -/
def Reg8.high : Reg8 → Bool
  | .al => false
  | .cl => false
  | .dl => false
  | .bl => false
  | .ah => true
  | .ch => true
  | .dh => true
  | .bh => true

/-- The bytes of an operand-size attribute. -/
def OpSize.bytes : OpSize → Nat
  | .s16 => 2
  | .s32 => 4

/-- An offset reduced to an address size. -/
def OpSize.wrap (a : OpSize) (off : DWord) : DWord :=
  match a with
  | .s16 => (off.extractLsb' 0 16).setWidth 32
  | .s32 => off

end Sys2Proof

namespace Sys2Proof.Machine

/-! ## How a meaning ends -/

/-- What ends an instruction before its effect (00_scope.md R15 `raise`), or a refusal. -/
inductive Stop where
  | fault (f : Fault)
  | refused (r : Refusal)
deriving DecidableEq, Repr

/-- A computation an event may end. -/
abbrev Result (α : Type) := Except Stop α

/-- The step's outcome. -/
def toOutcome (r : Result State) : Host.Outcome State Fault Refusal :=
  match r with
  | .ok s => .next s
  | .error (.fault f) => .fault f
  | .error (.refused r) => .refused r

/-- Raises `e` when the condition holds. -/
def stopIf (c : Bool) (e : Stop) : Result Unit :=
  match c with
  | true => .error e
  | false => .ok ()

/-! ## Environment and mode -/

def State.itaniumSE (s : State) : Bool := s.cfg.env == .itaniumSE

/-- Real-address mode (10_state.md R65). -/
def State.realMode (s : State) : Bool := !s.cr0.pe

/-- Protected mode (10_state.md R65). -/
def State.protectedMode (s : State) : Bool := s.cr0.pe && !s.flags.vm

/-- Virtual-8086 mode (10_state.md R65). -/
def State.v86Mode (s : State) : Bool := s.cr0.pe && s.flags.vm

/-- `ac_enabled` (10_state.md R56; log 18). -/
def State.acEnabled (s : State) : Bool := s.cr0.am && s.flags.ac

/-! ## Taking an exception

An event is a terminal outcome: the record of 60_exceptions.md R363, and nothing after it (R376, R377). -/

/-- The vector number (60_exceptions.md R350, Table 2-2). -/
def Exception.vector : Exception → Nat
  | .de => 0
  | .db => 1
  | .bp => 3
  | .of => 4
  | .br => 5
  | .ud => 6
  | .nm => 7
  | .df => 8
  | .ts => 10
  | .np => 11
  | .ss => 12
  | .gp => 13
  | .pf => 14
  | .mf => 16
  | .ac => 17
  | .mc => 18

/-- An IA-32 exception that is a fault, with no error code: reported at the instruction's first byte (60_exceptions.md
R352, R353). -/
def State.raise (s : State) (e : Exception) (address : Option AccessPoint := none) : Stop :=
  .fault (.exception e none s.pc address)

/-- The same with an error code, which real-address mode leaves out (60_exceptions.md R353). -/
def State.raiseCode (s : State) (e : Exception) (code : Word) (address : Option AccessPoint := none) : Stop :=
  .fault (.exception e (if s.realMode then none else some code) s.pc address)

/-- The error code of a selector: bits 1:0 cleared (60_exceptions.md R353). -/
def selectorCode (sel : Word) : Word := sel &&& 0xFFFC

/-- `#GP(0)`. -/
def State.gp0 (s : State) : Stop := s.raiseCode .gp 0

/-- `#SS(0)`. -/
def State.ss0 (s : State) : Stop := s.raiseCode .ss 0

/-- An exception whose error code is a selector (60_exceptions.md R353). -/
def State.raiseSel (s : State) (e : Exception) (sel : Word) : Stop := s.raiseCode e (selectorCode sel)

/-- An Itanium fault (60_exceptions.md R361, R362, R364). -/
def State.raiseItanium (s : State) (f : ItaniumFault) (address : Option AccessPoint := none) : Stop :=
  .fault (.itanium f s.pc address)

/-- An intercept that is a fault (60_exceptions.md R358). -/
def State.raiseIntercept (s : State) (k : Intercept) : Stop := .fault (.intercept k s.pc)

/-! ## General registers -/

def RegFile.get {α : Type} (f : RegFile α) : Reg → α
  | .eax => f.eax
  | .ecx => f.ecx
  | .edx => f.edx
  | .ebx => f.ebx
  | .esp => f.esp
  | .ebp => f.ebp
  | .esi => f.esi
  | .edi => f.edi

def RegFile.set {α : Type} (f : RegFile α) (r : Reg) (v : α) : RegFile α :=
  match r with
  | .eax => { f with eax := v }
  | .ecx => { f with ecx := v }
  | .edx => { f with edx := v }
  | .ebx => { f with ebx := v }
  | .esp => { f with esp := v }
  | .ebp => { f with ebp := v }
  | .esi => { f with esi := v }
  | .edi => { f with edi := v }

/-- A register with its low word replaced (10_state.md R31). -/
def withWord (old : DWord) (v : Word) : DWord := old.extractLsb' 16 16 ++ v

/-- A register with bits 7:0 or bits 15:8 replaced (10_state.md R32). -/
def withByte (old : DWord) (high : Bool) (v : Byte) : DWord :=
  match high with
  | false => old.extractLsb' 8 24 ++ v
  | true => old.extractLsb' 16 16 ++ v ++ old.extractLsb' 0 8

/-- Bits 7:0 or bits 15:8 of a register (10_state.md R32). -/
def byteOf (v : DWord) (high : Bool) : Byte :=
  match high with
  | false => v.extractLsb' 0 8
  | true => v.extractLsb' 8 8

def State.reg32 (s : State) (r : Reg) : DWord := s.regs.get r

/-- The low word of a register (10_state.md R31). -/
def State.reg16 (s : State) (r : Reg) : Word := (s.regs.get r).extractLsb' 0 16

/-- A byte register (10_state.md R32). -/
def State.reg8 (s : State) (r : Reg8) : Byte := byteOf (s.regs.get r.parent) r.high

def State.set32 (s : State) (r : Reg) (v : DWord) : State := { s with regs := s.regs.set r v }

def State.set16 (s : State) (r : Reg) (v : Word) : State := { s with regs := s.regs.set r (withWord (s.regs.get r) v) }

def State.set8 (s : State) (r : Reg8) (v : Byte) : State :=
  { s with regs := s.regs.set r.parent (withByte (s.regs.get r.parent) r.high v) }

/-- NaT Register Consumption Abort when a general register the instruction reads has its NaT bit set, in the Itanium System
Environment only (60_exceptions.md R362; log 28, which names where 40_bcd_adjust.md says otherwise). -/
def State.checkNat (s : State) (rs : List Reg) : Result Unit :=
  stopIf (s.itaniumSE && rs.any fun r => s.nat.get r) (s.raiseItanium .natConsumption)

/-! ## Memory -/

/-- What the memory map gives for an address: nothing where neither the launch nor the program has (20_memory.md R82). -/
def Memory.lookup : List Host.Cell → Nat → Option Byte
  | [], _ => none
  | (b, v) :: m, a => if a = b then some v else Memory.lookup m a

/-- What an address that is not listed reads as: `draw(8)`, fixed for the launch (20_memory.md R82; log 3). -/
def Memory.unlisted (a : Nat) : Byte := Config.freeByte a

/-- One byte of memory (20_memory.md R82). -/
def Memory.read (m : List Host.Cell) (a : Nat) : Byte := (Memory.lookup m a).getD (Memory.unlisted a)

/-- A store of one byte, which keeps the addresses strictly rising (`Memory.wf`). -/
def Memory.write : List Host.Cell → Nat → Byte → List Host.Cell
  | [], a, v => [(a, v)]
  | (b, w) :: m, a, v =>
    if a < b then (a, v) :: (b, w) :: m
    else if a = b then (a, v) :: m
    else (b, w) :: Memory.write m a v

/-- The canonical form: addresses strictly rising. An address that is not listed has no value of its own, so no entry
equals it (log 3). -/
def Memory.wf : List Host.Cell → Bool
  | [] => true
  | [_] => true
  | (a, _) :: (b, w) :: m => decide (a < b) && Memory.wf ((b, w) :: m)

/-- Adds an address to a rising list of addresses. -/
def insertRising : List Nat → Nat → List Nat
  | [], a => [a]
  | b :: l, a => if a < b then a :: b :: l else if a = b then b :: l else b :: insertRising l a

/-- Whether a list of addresses is strictly rising. -/
def rising : List Nat → Bool
  | [] => true
  | [_] => true
  | a :: b :: l => decide (a < b) && rising (b :: l)

/-- `MemRead` at the physical addresses of an operand's bytes, lowest first (20_memory.md R85). -/
def State.load (s : State) (w : Nat) (addrs : List Nat) : BitVec w :=
  BitVec.ofNat w (leNat (addrs.map fun a => Memory.read s.mem a))

/-- A store of one byte, which fetching remembers until the next CPUID (20_memory.md R112). -/
def State.storeByte (s : State) (a : Nat) (v : Byte) : State :=
  { s with mem := Memory.write s.mem a v, stored := insertRising s.stored a }

/-- `MemWrite` at the physical addresses of an operand's bytes, lowest first (20_memory.md R85). -/
def State.store (s : State) {w : Nat} : List Nat → BitVec w → State
  | [], _ => s
  | a :: l, v => (s.storeByte a (v.setWidth 8)).store l (v >>> 8)

/-! ## Translation (20_memory.md R100) -/

/-- What a fault of a page is, named as the Itanium fault it is in the Itanium System Environment (20_memory.md R100). -/
def namedAnswer {φ : Type} (name : φ → ItaniumFault) : PageResult φ → PageResult ItaniumFault
  | .frame p => .frame p
  | .fault f => .fault (name f)

/-- The oracle's answer for a linear page and a kind of access (20_memory.md R100); a page with no entry has the physical
page of its own number (log 4). -/
def State.pageAnswer (s : State) (kind : AccessKind) (page : Nat) : PageResult ItaniumFault :=
  match s.cfg.pages.find? fun e => e.page == page with
  | none => .frame page
  | some e =>
    match kind with
    | .fetch => namedAnswer .instrMem e.fetch
    | .read => namedAnswer (fun f => .dataMem (.data f)) e.read
    | .write => namedAnswer .dataMem e.write

/-- Whether a physical page holds memory (20_memory.md R108; log 4). -/
def mapHolds (m : MemoryMap) (page : Nat) : Bool :=
  match m.populated with
  | none => true
  | some l => l.contains page

/-- The fault of an access that the memory map does not cover (20_memory.md R108; log 4). -/
def mapFault (m : MemoryMap) : AccessKind → ItaniumFault
  | .fetch => .instrMem m.fetchFault
  | .read => .dataMem (.data m.readFault)
  | .write => .dataMem m.writeFault

/-- The oracle's answer, with a physical page that holds no memory answered by the memory map's fault (20_memory.md
R108). -/
def State.coveredAnswer (s : State) (kind : AccessKind) (page : Nat) : PageResult ItaniumFault :=
  match s.pageAnswer kind page with
  | .frame p => if mapHolds s.cfg.memory p then .frame p else .fault (mapFault s.cfg.memory kind)
  | .fault f => .fault f

/-- `Translate` for one byte (20_memory.md R100): an Itanium fault in the Itanium System Environment, `#PF` in the IA-32
System Environment, and there no fault in real-address mode (log 26). -/
def State.translate (s : State) (kind : AccessKind) (la : DWord) : Result Nat :=
  match s.coveredAnswer kind (la.toNat / 2 ^ s.cfg.pageShift) with
  | .frame p => .ok (p * 2 ^ s.cfg.pageShift + la.toNat % 2 ^ s.cfg.pageShift)
  | .fault f =>
    if s.itaniumSE then .error (s.raiseItanium f (some { la := la, kind := kind }))
    else if s.realMode then .ok la.toNat
    else .error (s.raise .pf (some { la := la, kind := kind }))

/-- `Translate` for the bytes of an access, in order (20_memory.md R100). -/
def State.translateAll (s : State) (kind : AccessKind) : List DWord → Result (List Nat)
  | [] => .ok []
  | la :: l => do
    let p ← s.translate kind la
    let ps ← s.translateAll kind l
    return p :: ps

/-- `n` linear addresses from `la` on, for a read of a system structure (44_call.md R258). -/
def linearsFrom (la : DWord) : Nat → List DWord
  | 0 => []
  | n + 1 => la :: linearsFrom (la + 1) n

/-- A read of `n` bytes of a descriptor table or a TSS: `Translate`, with no segment or privilege check (44_call.md R258;
log 22). -/
def State.systemRead (s : State) (w : Nat) (la : DWord) (n : Nat) : Result (BitVec w) := do
  let addrs ← s.translateAll .read (linearsFrom la n)
  return s.load w addrs

/-! ## Segments -/

def SegFile.get (f : SegFile) : SegReg → Segment
  | .es => f.es
  | .cs => f.cs
  | .ss => f.ss
  | .ds => f.ds
  | .fs => f.fs
  | .gs => f.gs

def State.seg (s : State) (r : SegReg) : Segment := s.segs.get r

/-- A selector whose bits 15:2 are zero (10_state.md R51). -/
def nullSelector (sel : Word) : Bool := sel.extractLsb' 2 14 == 0

/-- The RPL of a selector (42_protection_bounds.md R220). -/
def rpl (sel : Word) : BitVec 2 := sel.extractLsb' 0 2

/-- A selector with its RPL replaced. -/
def withRpl (sel : Word) (l : BitVec 2) : Word := sel.extractLsb' 2 14 ++ l

/-- The null segment test (20_memory.md R91). -/
def State.nullSegment (s : State) (r : SegReg) : Bool :=
  s.protectedMode && (r != .cs && r != .ss) &&
    (if s.itaniumSE then !(s.seg r).present else nullSelector (s.seg r).selector)

/-- The limit test for `n` bytes at `off` (20_memory.md R93). -/
def Segment.inLimit (g : Segment) (off : DWord) (n : Nat) : Bool :=
  if g.expandDown && !g.executable then
    decide (g.limit.toNat < off.toNat) && decide (off.toNat + n ≤ (if g.big then 2 ^ 32 else 2 ^ 16))
  else decide (off.toNat + n ≤ g.limit.toNat + 1)

/-- `#SS(0)` for SS, else `#GP(0)` (20_memory.md R93). -/
def State.limitStop (s : State) (r : SegReg) : Stop :=
  match r with
  | .ss => s.ss0
  | .cs => s.gp0
  | .ds => s.gp0
  | .es => s.gp0
  | .fs => s.gp0
  | .gs => s.gp0

/-- A code segment is never writable (20_memory.md R94). -/
def Segment.mayWrite (g : Segment) : Bool := g.writable && !g.executable

/-- A code segment may be read when it is readable (20_memory.md R94). -/
def Segment.mayRead (g : Segment) : Bool := !g.executable || g.readable

/-- The permission test, in protected mode only (20_memory.md R94, R95). -/
def State.deniedAccess (s : State) (g : Segment) (kind : AccessKind) : Bool :=
  match kind with
  | .write => s.protectedMode && !g.mayWrite
  | .read => s.protectedMode && !g.mayRead
  | .fetch => false

/-- The offset of byte `k` of an access (20_memory.md R81). -/
def byteOffset (a : OpSize) (off : DWord) (k : Nat) : DWord :=
  match a with
  | .s16 => ((off + BitVec.ofNat 32 k).extractLsb' 0 16).setWidth 32
  | .s32 => off + BitVec.ofNat 32 k

/-- The linear address of byte `k` of an access (20_memory.md R81). -/
def Segment.linear (g : Segment) (a : OpSize) (off : DWord) (k : Nat) : DWord := g.base + byteOffset a off k

/-- The linear addresses of the bytes of an access (20_memory.md R81). -/
def Segment.linears (g : Segment) (a : OpSize) (off : DWord) (n : Nat) : List DWord :=
  (List.range n).map fun k => g.linear a off k

/-- The alignment check of an access of items of the given sizes, each for its own size (20_memory.md R88). -/
def State.checkAlignment (s : State) (g : Segment) (a : OpSize) (off : DWord) (kind : AccessKind) :
    Nat → List Nat → Result Unit
  | _, [] => .ok ()
  | k, n :: ns => do
    stopIf (s.acEnabled && s.cpl == 3 && (g.linear a off k).toNat % n != 0)
      (s.raiseCode .ac 0 (some { la := g.linear a off k, kind := kind }))
    s.checkAlignment g a off kind (k + n) ns

/-- `SegAccess` of 20_memory.md R95, for an operand of consecutive items of the given sizes in bytes: the physical
addresses of its bytes, lowest first. -/
def State.segAccess (s : State) (r : SegReg) (a : OpSize) (off : DWord) (items : List Nat) (kind : AccessKind) :
    Result (List Nat) := do
  stopIf (s.nullSegment r) s.gp0
  stopIf (!(s.seg r).inLimit off items.sum) (s.limitStop r)
  stopIf (s.deniedAccess (s.seg r) kind) s.gp0
  s.checkAlignment (s.seg r) a off kind 0 items
  s.translateAll kind ((s.seg r).linears a off items.sum)

/-! ## The stack -/

/-- The stack address-size attribute (30_encoding.md R131). -/
def State.stackSize (s : State) : OpSize := if s.protectedMode && s.segs.ss.big then .s32 else .s16

/-- ESP or SP (20_memory.md R97). -/
def State.sp (s : State) : DWord := s.stackSize.wrap s.regs.esp

/-- A new value for ESP, or for SP with ESP bits 31:16 unchanged (20_memory.md R97). -/
def State.setSp (s : State) (a : OpSize) (v : DWord) : State :=
  match a with
  | .s16 => s.set16 .esp (v.extractLsb' 0 16)
  | .s32 => s.set32 .esp v

/-- The offsets of `count` pushes of `n` bytes, in the order of the pushes (20_memory.md R97). -/
def pushSlots (a : OpSize) (n : Nat) (sp : DWord) : Nat → List DWord
  | 0 => []
  | count + 1 => a.wrap (sp - BitVec.ofNat 32 n) :: pushSlots a n (a.wrap (sp - BitVec.ofNat 32 n)) count

/-- The offsets `count` pushes of the operand size go to. -/
def State.slots (s : State) (n : OpSize) (count : Nat) : List DWord := pushSlots s.stackSize n.bytes s.sp count

/-- Whether the stack is large enough: every push is inside SS (20_memory.md R96; log 33). -/
def Segment.hasRoom (g : Segment) (n : Nat) (slots : List DWord) : Bool := slots.all fun off => g.inLimit off n

/-- The `SegWrite` checks of the pushes, in their order (20_memory.md R95, R97). -/
def State.openSlots (s : State) (n : Nat) : List DWord → Result (List (List Nat))
  | [] => .ok []
  | off :: l => do
    let p ← s.segAccess .ss s.stackSize off [n] .write
    let ps ← s.openSlots n l
    return p :: ps

/-- The stores of the pushes, in their order: as many low-order bytes of each value as its slot has. -/
def State.storeSlots (s : State) : List (List Nat) → List DWord → State
  | p :: ps, v :: vs => (s.store p v).storeSlots ps vs
  | _, _ => s

/-! ## Free values and the instruction pointer -/

/-- The next free value (00_scope.md R15 `draw`; log 7). -/
def State.fresh (s : State) : DWord := Config.freeWord s.draws

/-- One more free value has been drawn. -/
def State.drew (s : State) (n : Nat) : State := { s with draws := s.draws + n }

/-- Sequential advance (10_state.md R37). -/
def State.advance (s : State) : State := { s with pc := s.nextPc }

end Sys2Proof.Machine
end

