-- ==== Sys2Proof/Machine/Flags.lean ====
section
/-! DEFINITION. The status flags of a result (10_state.md R44 to R50; 41_integer_arith_logic.md R183). -/

namespace Sys2Proof.Machine

/-- PF: the low byte has an even number of 1 bits (10_state.md R46). -/
def evenParity (b : Byte) : Bool :=
  !(b.getLsbD 0 ^^ b.getLsbD 1 ^^ b.getLsbD 2 ^^ b.getLsbD 3 ^^ b.getLsbD 4 ^^ b.getLsbD 5 ^^ b.getLsbD 6 ^^ b.getLsbD 7)

/-- PF of a result of any width: that of `r[7:0]` (10_state.md R46). -/
def parityFlag {w : Nat} (r : BitVec w) : Bool := evenParity (r.setWidth 8)

/-- The low four bits of an operand (10_state.md R47). -/
def nibble {w : Nat} (v : BitVec w) : Nat := v.toNat % 16

/-- The flags after `a + b + c` (10_state.md R45 to R50). -/
def addFlags {w : Nat} (a b : BitVec w) (c : Bool) : StatusFlags :=
  let r := a + b + BitVec.ofNat w c.toNat
  { cf := decide (2 ^ w ≤ a.toNat + b.toNat + c.toNat)
    pf := parityFlag r
    af := decide (16 ≤ nibble a + nibble b + c.toNat)
    zf := r == 0
    sf := r.msb
    ofl := a.msb == b.msb && r.msb != a.msb }

/-- The flags after `a - b` (10_state.md R45 to R50). -/
def subFlags {w : Nat} (a b : BitVec w) : StatusFlags :=
  let r := a - b
  { cf := decide (a.toNat < b.toNat)
    pf := parityFlag r
    af := decide (nibble a < nibble b)
    zf := r == 0
    sf := r.msb
    ofl := a.msb != b.msb && r.msb != a.msb }

/-- The flags after AND (41_integer_arith_logic.md R192); `af` is the free value of the undefined AF. -/
def andFlags {w : Nat} (r : BitVec w) (af : Bool) : StatusFlags :=
  { cf := false, pf := parityFlag r, af := af, zf := r == 0, sf := r.msb, ofl := false }

/-- The flags after DEC (41_integer_arith_logic.md R194): CF stays. -/
def decFlags {w : Nat} (a : BitVec w) (cf : Bool) : StatusFlags :=
  let r := a - 1
  { cf := cf
    pf := parityFlag r
    af := nibble a == 0
    zf := r == 0
    sf := r.msb
    ofl := decide (a.toNat = 2 ^ (w - 1)) }

/-- Six free flag bits from one free value: an independent `draw(1)` for each (10_state.md R44; log 7). -/
def freeStatus (w : DWord) : StatusFlags :=
  { cf := w.getLsbD 0, pf := w.getLsbD 1, af := w.getLsbD 2, zf := w.getLsbD 3, sf := w.getLsbD 4, ofl := w.getLsbD 5 }

/-- The bit of a free value that a choice made at each execution takes (00_scope.md R9; log 7). -/
def freeChoice (w : DWord) : Bool := w.getLsbD 31

def State.setStatus (s : State) (f : StatusFlags) : State := { s with status := f }

end Sys2Proof.Machine
end

