-- ==== Sys2Proof/Machine/Operands.lean ====
section
/-! DEFINITION. Effective addresses, operands and where they are (30_encoding.md R124 to R134; 20_memory.md R95, R102). -/

namespace Sys2Proof

/-! ## Registers and places of operands -/

/-- The general registers a 16-bit register sum reads (30_encoding.md R126). -/
def Base16.regs : Base16 → List Reg
  | .bxSi => [.ebx, .esi]
  | .bxDi => [.ebx, .edi]
  | .bpSi => [.ebp, .esi]
  | .bpDi => [.ebp, .edi]
  | .si => [.esi]
  | .di => [.edi]
  | .bp => [.ebp]
  | .bx => [.ebx]

/-- The general registers an effective address reads (60_exceptions.md R362). -/
def EffAddr.regs : EffAddr → List Reg
  | .a16 none _ => []
  | .a16 (some b) _ => b.regs
  | .a32 b i _ => b.toList ++ (i.map Prod.fst).toList

/-- The address size of an effective address (30_encoding.md R130). -/
def EffAddr.addrSize : EffAddr → OpSize
  | .a16 _ _ => .s16
  | .a32 _ _ _ => .s32

/-- Where an operand of `w` bits is: a register view or memory (30_encoding.md R134). -/
inductive Place : Nat → Type where
  | r8 (r : Reg8) : Place 8
  | r16 (r : Reg) : Place 16
  | r32 (r : Reg) : Place 32
  | mem {w : Nat} (m : MemOp) : Place w

def RM8.place : RM8 → Place 8
  | .reg r => .r8 r
  | .mem m => .mem m

def RM.place16 : RM → Place 16
  | .reg r => .r16 r
  | .mem m => .mem m

def RM.place32 : RM → Place 32
  | .reg r => .r32 r
  | .mem m => .mem m

/-- The general registers that reading an operand reads (60_exceptions.md R362). -/
def Place.regs {w : Nat} : Place w → List Reg
  | .r8 r => [r.parent]
  | .r16 r => [r]
  | .r32 r => [r]
  | .mem m => m.ea.regs

/-- A source operand: an immediate, or a place (30_encoding.md R128, R134). -/
inductive Operand (w : Nat) where
  | imm (v : BitVec w)
  | place (p : Place w)

def Operand.regs {w : Nat} : Operand w → List Reg
  | .imm _ => []
  | .place p => p.regs

end Sys2Proof

namespace Sys2Proof.Machine

/-! ## Effective addresses -/

/-- A 16-bit register sum, modulo 2^16 (30_encoding.md R126). -/
def State.base16 (s : State) : Base16 → Word
  | .bxSi => s.reg16 .ebx + s.reg16 .esi
  | .bxDi => s.reg16 .ebx + s.reg16 .edi
  | .bpSi => s.reg16 .ebp + s.reg16 .esi
  | .bpDi => s.reg16 .ebp + s.reg16 .edi
  | .si => s.reg16 .esi
  | .di => s.reg16 .edi
  | .bp => s.reg16 .ebp
  | .bx => s.reg16 .ebx

/-- The base of a 16-bit form, 0 where there is none. -/
def State.base16Opt (s : State) : Option Base16 → Word
  | none => 0
  | some b => s.base16 b

/-- The base of a 32-bit form, 0 where there is none (30_encoding.md R124, R125). -/
def State.baseOpt (s : State) : Option Reg → DWord
  | none => 0
  | some r => s.reg32 r

/-- The scaled index, 0 where there is none (30_encoding.md R125). -/
def State.indexOpt (s : State) : Option (Reg × BitVec 2) → DWord
  | none => 0
  | some (r, sc) => s.reg32 r <<< sc.toNat

/-- The offset of an effective address: modulo 2^16 and zero-extended, or modulo 2^32 (30_encoding.md R124 to R126). -/
def State.offset (s : State) : EffAddr → DWord
  | .a16 b d => (s.base16Opt b + d).setWidth 32
  | .a32 b i d => s.baseOpt b + s.indexOpt i + d

/-- `SegAccess` to a memory operand (20_memory.md R95). -/
def State.memAccess (s : State) (m : MemOp) (items : List Nat) (kind : AccessKind) : Result (List Nat) :=
  s.segAccess m.seg m.ea.addrSize (s.offset m.ea) items kind

/-! ## Operands -/

/-- The checks of an access to an operand: the physical addresses of its bytes, none for a register (20_memory.md R95). A
read-modify-write instruction opens its destination once, with the kind write, and reads there too (log 37). -/
def State.openPlace (s : State) {w : Nat} (p : Place w) (kind : AccessKind) : Result (List Nat) :=
  match p with
  | .r8 _ => .ok []
  | .r16 _ => .ok []
  | .r32 _ => .ok []
  | .mem m => s.memAccess m [w / 8] kind

/-- The value of an operand whose bytes are at these physical addresses. -/
def State.peek (s : State) {w : Nat} (p : Place w) (addrs : List Nat) : BitVec w :=
  match p with
  | .r8 r => s.reg8 r
  | .r16 r => s.reg16 r
  | .r32 r => s.reg32 r
  | .mem (w := w) _ => s.load w addrs

/-- The state after an operand is written (10_state.md R31, R32; 20_memory.md R85). -/
def State.poke (s : State) {w : Nat} (p : Place w) (addrs : List Nat) (v : BitVec w) : State :=
  match p, v with
  | .r8 r, v => s.set8 r v
  | .r16 r, v => s.set16 r v
  | .r32 r, v => s.set32 r v
  | .mem _, v => s.store addrs v

/-- The checks of reading a source operand. -/
def State.openOperand (s : State) {w : Nat} (o : Operand w) : Result (List Nat) :=
  match o with
  | .imm _ => .ok []
  | .place p => s.openPlace p .read

def State.operand (s : State) {w : Nat} (o : Operand w) (addrs : List Nat) : BitVec w :=
  match o with
  | .imm v => v
  | .place p => s.peek p addrs

/-- Reads a source operand: its checks, then its value. -/
def State.readOperand (s : State) {w : Nat} (o : Operand w) : Result (BitVec w) := do
  let addrs ← s.openOperand o
  return s.operand o addrs

/-! ## The lock intercept -/

/-- Whether a bus lock intercepts an access of `n` bytes at a linear address (20_memory.md R106; log 20): CMPXCHG and
CMPXCHG8B always can, the other instructions under `lock_intercept_all`. -/
def State.lockIntercepts (s : State) (op : LockOp) (la : DWord) (n : Nat) : Bool :=
  s.itaniumSE && s.dcrLc && s.cfg.lockRequired.contains { op := op, la := la, bytes := n } &&
    (op == .cmpxchg || op == .cmpxchg8b || s.cfg.lockInterceptAll)

/-- `IA-32_Intercept(LOCK, …)` before any access (20_memory.md R106), for an instruction with a LOCK prefix. -/
def State.checkLock (s : State) (op : LockOp) (lock : Bool) (m : MemOp) (off : DWord) (n : Nat) : Result Unit :=
  stopIf (lock && s.lockIntercepts op ((s.seg m.seg).linear m.ea.addrSize off 0) n) (s.raiseIntercept (.lock op))

/-- The same for an operand, which a register never is intercepted for. -/
def State.checkLockPlace (s : State) (op : LockOp) (lock : Bool) {w : Nat} (p : Place w) : Result Unit :=
  match p with
  | .r8 _ => .ok ()
  | .r16 _ => .ok ()
  | .r32 _ => .ok ()
  | .mem m => s.checkLock op lock m (s.offset m.ea) (w / 8)

end Sys2Proof.Machine
end

