-- ==== Sys2Proof/Machine/Arith.lean ====
section
/-! DEFINITION. ADC, ADD, AND, CMP, DEC and DIV (41_integer_arith_logic.md). -/

namespace Sys2Proof.Machine

/-- The two-operand operations that write their destination. -/
inductive AluOp where
  | adc
  | add
  | and
deriving DecidableEq, Repr

/-- The result of an operation (41_integer_arith_logic.md R190, R191, R192). -/
def aluResult {w : Nat} (op : AluOp) (a b : BitVec w) (cf : Bool) : BitVec w :=
  match op with
  | .adc => a + b + BitVec.ofNat w cf.toNat
  | .add => a + b
  | .and => a &&& b

/-- The flags of an operation (41_integer_arith_logic.md R190, R191, R192); `free` supplies the undefined AF of AND. -/
def aluFlags {w : Nat} (op : AluOp) (a b : BitVec w) (cf : Bool) (free : DWord) : StatusFlags :=
  match op with
  | .adc => addFlags a b cf
  | .add => addFlags a b false
  | .and => andFlags (a &&& b) (freeStatus free).af

/-- How many free values an operation draws. -/
def aluDraws (op : AluOp) : Nat :=
  match op with
  | .adc => 0
  | .add => 0
  | .and => 1

/-- The instruction a LOCK prefix stands before (20_memory.md R107). -/
def aluLock (op : AluOp) : LockOp :=
  match op with
  | .adc => .adc
  | .add => .add
  | .and => .and

/-- ADC, ADD and AND (41_integer_arith_logic.md R180 to R183): the checks, then the flags and the destination. A memory
destination is read at the addresses of its write access (log 37). -/
def alu (op : AluOp) (lock : Bool) {w : Nat} (dst : Place w) (src : Operand w) (s : State) :
    Host.Outcome State Fault Refusal :=
  toOutcome do
    s.checkNat (dst.regs ++ src.regs)
    s.checkLockPlace (aluLock op) lock dst
    let addrs ← s.openPlace dst .write
    let b ← s.readOperand src
    let a := s.peek dst addrs
    let s1 := (s.setStatus (aluFlags op a b s.status.cf s.fresh)).drew (aluDraws op)
    return (s1.poke dst addrs (aluResult op a b s.status.cf)).advance

/-- CMP (41_integer_arith_logic.md R193): the first operand is read only. -/
def cmp {w : Nat} (dst : Place w) (src : Operand w) (s : State) : Host.Outcome State Fault Refusal :=
  toOutcome do
    s.checkNat (dst.regs ++ src.regs)
    let a ← s.readOperand (.place dst)
    let b ← s.readOperand src
    return (s.setStatus (subFlags a b)).advance

/-- DEC (41_integer_arith_logic.md R194). A memory destination is read at the addresses of its write access (log 37). -/
def dec (lock : Bool) {w : Nat} (dst : Place w) (s : State) : Host.Outcome State Fault Refusal :=
  toOutcome do
    s.checkNat dst.regs
    s.checkLockPlace .dec lock dst
    let addrs ← s.openPlace dst .write
    let a := s.peek dst addrs
    return ((s.setStatus (decFlags a s.status.cf)).poke dst addrs (a - 1)).advance

/-- The common part of DIV (41_integer_arith_logic.md R195): `regs` hold the dividend, `put` writes quotient and
remainder. -/
def div {w : Nat} (regs : List Reg) (dividend : State → Nat) (put : BitVec w → BitVec w → State → State) (src : Place w)
    (s : State) : Host.Outcome State Fault Refusal :=
  toOutcome do
    s.checkNat (regs ++ src.regs)
    let v ← s.readOperand (.place src)
    stopIf (v == 0) (s.raise .de)
    stopIf (decide (2 ^ w ≤ dividend s / v.toNat)) (s.raise .de)
    let s1 := (s.setStatus (freeStatus s.fresh)).drew 1
    return (put (BitVec.ofNat w (dividend s / v.toNat)) (BitVec.ofNat w (dividend s % v.toNat)) s1).advance

/-- AX, the dividend of the byte form. -/
def dividend8 (s : State) : Nat := (s.reg16 .eax).toNat

/-- DX:AX, the dividend of the word form. -/
def dividend16 (s : State) : Nat := (s.reg16 .edx ++ s.reg16 .eax).toNat

/-- EDX:EAX, the dividend of the doubleword form. -/
def dividend32 (s : State) : Nat := (s.reg32 .edx ++ s.reg32 .eax).toNat

/-- Quotient in AL, remainder in AH. -/
def putQuotient8 (q r : Byte) (s : State) : State := (s.set8 .al q).set8 .ah r

/-- Quotient in AX, remainder in DX. -/
def putQuotient16 (q r : Word) (s : State) : State := (s.set16 .eax q).set16 .edx r

/-- Quotient in EAX, remainder in EDX. -/
def putQuotient32 (q r : DWord) (s : State) : State := (s.set32 .eax q).set32 .edx r

/-- ADC, `14` (R190). -/
def execAdcAlIb (imm : Byte) (s : State) : Host.Outcome State Fault Refusal :=
  alu .adc false (.r8 .al) (.imm imm) s

/-- ADC, `15` (R190). -/
def execAdcAxIw (imm : Word) (s : State) : Host.Outcome State Fault Refusal :=
  alu .adc false (.r16 .eax) (.imm imm) s

/-- ADC, `15` (R190). -/
def execAdcEaxId (imm : DWord) (s : State) : Host.Outcome State Fault Refusal :=
  alu .adc false (.r32 .eax) (.imm imm) s

/-- ADC, `80 /2` (R190). -/
def execAdcRm8Ib (lock : Bool) (rm : RM8) (imm : Byte) (s : State) : Host.Outcome State Fault Refusal :=
  alu .adc lock rm.place (.imm imm) s

/-- ADC, `81 /2` (R190). -/
def execAdcRm16Iw (lock : Bool) (rm : RM) (imm : Word) (s : State) : Host.Outcome State Fault Refusal :=
  alu .adc lock rm.place16 (.imm imm) s

/-- ADC, `81 /2` (R190). -/
def execAdcRm32Id (lock : Bool) (rm : RM) (imm : DWord) (s : State) : Host.Outcome State Fault Refusal :=
  alu .adc lock rm.place32 (.imm imm) s

/-- ADC, `83 /2` (R190). -/
def execAdcRm16Ib (lock : Bool) (rm : RM) (imm : Byte) (s : State) : Host.Outcome State Fault Refusal :=
  alu .adc lock rm.place16 (.imm (imm.signExtend 16)) s

/-- ADC, `83 /2` (R190). -/
def execAdcRm32Ib (lock : Bool) (rm : RM) (imm : Byte) (s : State) : Host.Outcome State Fault Refusal :=
  alu .adc lock rm.place32 (.imm (imm.signExtend 32)) s

/-- ADC, `10` (R190). -/
def execAdcRm8R8 (lock : Bool) (rm : RM8) (r : Reg8) (s : State) : Host.Outcome State Fault Refusal :=
  alu .adc lock rm.place (.place (.r8 r)) s

/-- ADC, `11` (R190). -/
def execAdcRm16R16 (lock : Bool) (rm : RM) (r : Reg) (s : State) : Host.Outcome State Fault Refusal :=
  alu .adc lock rm.place16 (.place (.r16 r)) s

/-- ADC, `11` (R190). -/
def execAdcRm32R32 (lock : Bool) (rm : RM) (r : Reg) (s : State) : Host.Outcome State Fault Refusal :=
  alu .adc lock rm.place32 (.place (.r32 r)) s

/-- ADC, `12` (R190). -/
def execAdcR8Rm8 (r : Reg8) (rm : RM8) (s : State) : Host.Outcome State Fault Refusal :=
  alu .adc false (.r8 r) (.place rm.place) s

/-- ADC, `13` (R190). -/
def execAdcR16Rm16 (r : Reg) (rm : RM) (s : State) : Host.Outcome State Fault Refusal :=
  alu .adc false (.r16 r) (.place rm.place16) s

/-- ADC, `13` (R190). -/
def execAdcR32Rm32 (r : Reg) (rm : RM) (s : State) : Host.Outcome State Fault Refusal :=
  alu .adc false (.r32 r) (.place rm.place32) s

/-- ADD, `04` (R191). -/
def execAddAlIb (imm : Byte) (s : State) : Host.Outcome State Fault Refusal :=
  alu .add false (.r8 .al) (.imm imm) s

/-- ADD, `05` (R191). -/
def execAddAxIw (imm : Word) (s : State) : Host.Outcome State Fault Refusal :=
  alu .add false (.r16 .eax) (.imm imm) s

/-- ADD, `05` (R191). -/
def execAddEaxId (imm : DWord) (s : State) : Host.Outcome State Fault Refusal :=
  alu .add false (.r32 .eax) (.imm imm) s

/-- ADD, `80 /0` (R191). -/
def execAddRm8Ib (lock : Bool) (rm : RM8) (imm : Byte) (s : State) : Host.Outcome State Fault Refusal :=
  alu .add lock rm.place (.imm imm) s

/-- ADD, `81 /0` (R191). -/
def execAddRm16Iw (lock : Bool) (rm : RM) (imm : Word) (s : State) : Host.Outcome State Fault Refusal :=
  alu .add lock rm.place16 (.imm imm) s

/-- ADD, `81 /0` (R191). -/
def execAddRm32Id (lock : Bool) (rm : RM) (imm : DWord) (s : State) : Host.Outcome State Fault Refusal :=
  alu .add lock rm.place32 (.imm imm) s

/-- ADD, `83 /0` (R191). -/
def execAddRm16Ib (lock : Bool) (rm : RM) (imm : Byte) (s : State) : Host.Outcome State Fault Refusal :=
  alu .add lock rm.place16 (.imm (imm.signExtend 16)) s

/-- ADD, `83 /0` (R191). -/
def execAddRm32Ib (lock : Bool) (rm : RM) (imm : Byte) (s : State) : Host.Outcome State Fault Refusal :=
  alu .add lock rm.place32 (.imm (imm.signExtend 32)) s

/-- ADD, `00` (R191). -/
def execAddRm8R8 (lock : Bool) (rm : RM8) (r : Reg8) (s : State) : Host.Outcome State Fault Refusal :=
  alu .add lock rm.place (.place (.r8 r)) s

/-- ADD, `01` (R191). -/
def execAddRm16R16 (lock : Bool) (rm : RM) (r : Reg) (s : State) : Host.Outcome State Fault Refusal :=
  alu .add lock rm.place16 (.place (.r16 r)) s

/-- ADD, `01` (R191). -/
def execAddRm32R32 (lock : Bool) (rm : RM) (r : Reg) (s : State) : Host.Outcome State Fault Refusal :=
  alu .add lock rm.place32 (.place (.r32 r)) s

/-- ADD, `02` (R191). -/
def execAddR8Rm8 (r : Reg8) (rm : RM8) (s : State) : Host.Outcome State Fault Refusal :=
  alu .add false (.r8 r) (.place rm.place) s

/-- ADD, `03` (R191). -/
def execAddR16Rm16 (r : Reg) (rm : RM) (s : State) : Host.Outcome State Fault Refusal :=
  alu .add false (.r16 r) (.place rm.place16) s

/-- ADD, `03` (R191). -/
def execAddR32Rm32 (r : Reg) (rm : RM) (s : State) : Host.Outcome State Fault Refusal :=
  alu .add false (.r32 r) (.place rm.place32) s

/-- AND, `24` (R192). -/
def execAndAlIb (imm : Byte) (s : State) : Host.Outcome State Fault Refusal :=
  alu .and false (.r8 .al) (.imm imm) s

/-- AND, `25` (R192). -/
def execAndAxIw (imm : Word) (s : State) : Host.Outcome State Fault Refusal :=
  alu .and false (.r16 .eax) (.imm imm) s

/-- AND, `25` (R192). -/
def execAndEaxId (imm : DWord) (s : State) : Host.Outcome State Fault Refusal :=
  alu .and false (.r32 .eax) (.imm imm) s

/-- AND, `80 /4` (R192). -/
def execAndRm8Ib (lock : Bool) (rm : RM8) (imm : Byte) (s : State) : Host.Outcome State Fault Refusal :=
  alu .and lock rm.place (.imm imm) s

/-- AND, `81 /4` (R192). -/
def execAndRm16Iw (lock : Bool) (rm : RM) (imm : Word) (s : State) : Host.Outcome State Fault Refusal :=
  alu .and lock rm.place16 (.imm imm) s

/-- AND, `81 /4` (R192). -/
def execAndRm32Id (lock : Bool) (rm : RM) (imm : DWord) (s : State) : Host.Outcome State Fault Refusal :=
  alu .and lock rm.place32 (.imm imm) s

/-- AND, `83 /4` (R192). -/
def execAndRm16Ib (lock : Bool) (rm : RM) (imm : Byte) (s : State) : Host.Outcome State Fault Refusal :=
  alu .and lock rm.place16 (.imm (imm.signExtend 16)) s

/-- AND, `83 /4` (R192). -/
def execAndRm32Ib (lock : Bool) (rm : RM) (imm : Byte) (s : State) : Host.Outcome State Fault Refusal :=
  alu .and lock rm.place32 (.imm (imm.signExtend 32)) s

/-- AND, `20` (R192). -/
def execAndRm8R8 (lock : Bool) (rm : RM8) (r : Reg8) (s : State) : Host.Outcome State Fault Refusal :=
  alu .and lock rm.place (.place (.r8 r)) s

/-- AND, `21` (R192). -/
def execAndRm16R16 (lock : Bool) (rm : RM) (r : Reg) (s : State) : Host.Outcome State Fault Refusal :=
  alu .and lock rm.place16 (.place (.r16 r)) s

/-- AND, `21` (R192). -/
def execAndRm32R32 (lock : Bool) (rm : RM) (r : Reg) (s : State) : Host.Outcome State Fault Refusal :=
  alu .and lock rm.place32 (.place (.r32 r)) s

/-- AND, `22` (R192). -/
def execAndR8Rm8 (r : Reg8) (rm : RM8) (s : State) : Host.Outcome State Fault Refusal :=
  alu .and false (.r8 r) (.place rm.place) s

/-- AND, `23` (R192). -/
def execAndR16Rm16 (r : Reg) (rm : RM) (s : State) : Host.Outcome State Fault Refusal :=
  alu .and false (.r16 r) (.place rm.place16) s

/-- AND, `23` (R192). -/
def execAndR32Rm32 (r : Reg) (rm : RM) (s : State) : Host.Outcome State Fault Refusal :=
  alu .and false (.r32 r) (.place rm.place32) s

/-- CMP, `3C` (R193). -/
def execCmpAlIb (imm : Byte) (s : State) : Host.Outcome State Fault Refusal :=
  cmp (.r8 .al) (.imm imm) s

/-- CMP, `3D` (R193). -/
def execCmpAxIw (imm : Word) (s : State) : Host.Outcome State Fault Refusal :=
  cmp (.r16 .eax) (.imm imm) s

/-- CMP, `3D` (R193). -/
def execCmpEaxId (imm : DWord) (s : State) : Host.Outcome State Fault Refusal :=
  cmp (.r32 .eax) (.imm imm) s

/-- CMP, `80 /7` (R193). -/
def execCmpRm8Ib (rm : RM8) (imm : Byte) (s : State) : Host.Outcome State Fault Refusal :=
  cmp rm.place (.imm imm) s

/-- CMP, `81 /7` (R193). -/
def execCmpRm16Iw (rm : RM) (imm : Word) (s : State) : Host.Outcome State Fault Refusal :=
  cmp rm.place16 (.imm imm) s

/-- CMP, `81 /7` (R193). -/
def execCmpRm32Id (rm : RM) (imm : DWord) (s : State) : Host.Outcome State Fault Refusal :=
  cmp rm.place32 (.imm imm) s

/-- CMP, `83 /7` (R193). -/
def execCmpRm16Ib (rm : RM) (imm : Byte) (s : State) : Host.Outcome State Fault Refusal :=
  cmp rm.place16 (.imm (imm.signExtend 16)) s

/-- CMP, `83 /7` (R193). -/
def execCmpRm32Ib (rm : RM) (imm : Byte) (s : State) : Host.Outcome State Fault Refusal :=
  cmp rm.place32 (.imm (imm.signExtend 32)) s

/-- CMP, `38` (R193). -/
def execCmpRm8R8 (rm : RM8) (r : Reg8) (s : State) : Host.Outcome State Fault Refusal :=
  cmp rm.place (.place (.r8 r)) s

/-- CMP, `39` (R193). -/
def execCmpRm16R16 (rm : RM) (r : Reg) (s : State) : Host.Outcome State Fault Refusal :=
  cmp rm.place16 (.place (.r16 r)) s

/-- CMP, `39` (R193). -/
def execCmpRm32R32 (rm : RM) (r : Reg) (s : State) : Host.Outcome State Fault Refusal :=
  cmp rm.place32 (.place (.r32 r)) s

/-- CMP, `3A` (R193). -/
def execCmpR8Rm8 (r : Reg8) (rm : RM8) (s : State) : Host.Outcome State Fault Refusal :=
  cmp (.r8 r) (.place rm.place) s

/-- CMP, `3B` (R193). -/
def execCmpR16Rm16 (r : Reg) (rm : RM) (s : State) : Host.Outcome State Fault Refusal :=
  cmp (.r16 r) (.place rm.place16) s

/-- CMP, `3B` (R193). -/
def execCmpR32Rm32 (r : Reg) (rm : RM) (s : State) : Host.Outcome State Fault Refusal :=
  cmp (.r32 r) (.place rm.place32) s

/-- DEC, `FE /1` (R194). -/
def execDecRm8 (lock : Bool) (rm : RM8) (s : State) : Host.Outcome State Fault Refusal :=
  dec lock rm.place s

/-- DEC, `FF /1` (R194). -/
def execDecRm16 (lock : Bool) (rm : RM) (s : State) : Host.Outcome State Fault Refusal :=
  dec lock rm.place16 s

/-- DEC, `FF /1` (R194). -/
def execDecRm32 (lock : Bool) (rm : RM) (s : State) : Host.Outcome State Fault Refusal :=
  dec lock rm.place32 s

/-- DEC, `48` (R194). -/
def execDecR16 (r : Reg) (s : State) : Host.Outcome State Fault Refusal :=
  dec false (.r16 r) s

/-- DEC, `48` (R194). -/
def execDecR32 (r : Reg) (s : State) : Host.Outcome State Fault Refusal :=
  dec false (.r32 r) s

/-- DIV, `F6 /6` (R195). -/
def execDivRm8 (rm : RM8) (s : State) : Host.Outcome State Fault Refusal :=
  div [.eax] dividend8 putQuotient8 rm.place s

/-- DIV, `F7 /6` (R195). -/
def execDivRm16 (rm : RM) (s : State) : Host.Outcome State Fault Refusal :=
  div [.edx, .eax] dividend16 putQuotient16 rm.place16 s

/-- DIV, `F7 /6` (R195). -/
def execDivRm32 (rm : RM) (s : State) : Host.Outcome State Fault Refusal :=
  div [.edx, .eax] dividend32 putQuotient32 rm.place32 s

end Sys2Proof.Machine
end

