-- ==== Sys2Proof/Machine/Bcd.lean ====
section
/-! DEFINITION. AAA, AAD, AAM, AAS, DAA and DAS (40_bcd_adjust.md). -/

namespace Sys2Proof.Machine

/-- AH and AL of AX. -/
def highByte (ax : Word) : Byte := ax.extractLsb' 8 8

def lowByte (ax : Word) : Byte := ax.extractLsb' 0 8

/-- Whether a decimal digit needs adjusting (40_bcd_adjust.md R170, R173 to R175). -/
def adjusts (al : Byte) (af : Bool) : Bool := decide (9 < nibble al) || af

/-- AX after AAA (40_bcd_adjust.md R170), for either `bcd_variant`. -/
def aaaResult (v : BcdVariant) (ax : Word) (af : Bool) : Word :=
  match adjusts (lowByte ax) af with
  | false => highByte ax ++ (lowByte ax &&& 0x0F)
  | true =>
    match v with
    | .source => (highByte ax + 1) ++ ((lowByte ax + 6) &&& 0x0F)
    | .laterEdition => highByte (ax + 0x106) ++ (lowByte (ax + 0x106) &&& 0x0F)

/-- AX after AAS (40_bcd_adjust.md R173), for either `bcd_variant`. -/
def aasResult (v : BcdVariant) (ax : Word) (af : Bool) : Word :=
  match adjusts (lowByte ax) af with
  | false => highByte ax ++ (lowByte ax &&& 0x0F)
  | true =>
    match v with
    | .source => (highByte ax - 1) ++ ((lowByte ax - 6) &&& 0x0F)
    | .laterEdition => (highByte (ax - 6) - 1) ++ (lowByte (ax - 6) &&& 0x0F)

/-- The flags after AAA and AAS: CF and AF, and four free values (40_bcd_adjust.md R170, R173). -/
def asciiFlags (adjust : Bool) (free : DWord) : StatusFlags := { freeStatus free with cf := adjust, af := adjust }

/-- The flags after AAD and AAM: SF, ZF and PF of AL, and three free values (40_bcd_adjust.md R171, R172). -/
def unpackedFlags (al : Byte) (free : DWord) : StatusFlags :=
  { freeStatus free with sf := al.msb, zf := al == 0, pf := parityFlag al }

/-- What DAA and DAS compute: AL, CF and AF. -/
structure Packed where
  al : Byte
  cf : Bool
  af : Bool
deriving DecidableEq, Repr

/-- The first step of DAA (40_bcd_adjust.md R174). -/
def daaLow (p : Packed) : Packed :=
  match adjusts p.al p.af with
  | true => { al := p.al + 6, cf := p.cf || decide (256 ≤ p.al.toNat + 6), af := true }
  | false => { p with af := false }

/-- The second step of DAA, on the AL and CF the first one left (40_bcd_adjust.md R174). -/
def daaHigh (p : Packed) : Packed :=
  match decide (0x90 < (p.al &&& 0xF0).toNat) || p.cf with
  | true => { p with al := p.al + 0x60, cf := true }
  | false => { p with cf := false }

/-- DAA (40_bcd_adjust.md R174). -/
def daaResult (p : Packed) : Packed := daaHigh (daaLow p)

/-- The first step of DAS (40_bcd_adjust.md R175). -/
def dasLow (p : Packed) : Packed :=
  match adjusts p.al p.af with
  | true => { al := p.al - 6, cf := p.cf || decide (p.al.toNat < 6), af := true }
  | false => { p with af := false }

/-- The second step of DAS, on the AL and CF the first one left (40_bcd_adjust.md R175). -/
def dasHigh (p : Packed) : Packed :=
  match decide (0x9F < p.al.toNat) || p.cf with
  | true => { p with al := p.al - 0x60, cf := true }
  | false => { p with cf := false }

/-- The later editions' DAS (40_bcd_adjust.md R175, corner cases). -/
def dasLater (p : Packed) : Packed :=
  let q : Packed :=
    match adjusts p.al p.af with
    | true => { al := p.al - 6, cf := p.cf || decide (p.al.toNat < 6), af := true }
    | false => { al := p.al, cf := false, af := false }
  match decide (0x99 < p.al.toNat) || p.cf with
  | true => { q with al := q.al - 0x60, cf := true }
  | false => q

/-- DAS (40_bcd_adjust.md R175), for either `bcd_variant`. -/
def dasResult (v : BcdVariant) (p : Packed) : Packed :=
  match v with
  | .source => dasHigh (dasLow p)
  | .laterEdition => dasLater p

/-- The flags after DAA and DAS: OF is a free value (40_bcd_adjust.md R174, R175). -/
def packedFlags (p : Packed) (free : DWord) : StatusFlags :=
  { cf := p.cf, pf := parityFlag p.al, af := p.af, zf := p.al == 0, sf := p.al.msb, ofl := (freeStatus free).ofl }

/-- What DAA and DAS read. -/
def State.packed (s : State) : Packed := { al := s.reg8 .al, cf := s.status.cf, af := s.status.af }

/-- AAA, `37` (R170). -/
def execAaa (s : State) : Host.Outcome State Fault Refusal :=
  toOutcome do
    s.checkNat [.eax]
    let adjust := adjusts (s.reg8 .al) s.status.af
    let s1 := (s.setStatus (asciiFlags adjust s.fresh)).drew 1
    return (s1.set16 .eax (aaaResult s.cfg.bcdVariant (s.reg16 .eax) s.status.af)).advance

/-- AAS, `3F` (R173). -/
def execAas (s : State) : Host.Outcome State Fault Refusal :=
  toOutcome do
    s.checkNat [.eax]
    let adjust := adjusts (s.reg8 .al) s.status.af
    let s1 := (s.setStatus (asciiFlags adjust s.fresh)).drew 1
    return (s1.set16 .eax (aasResult s.cfg.bcdVariant (s.reg16 .eax) s.status.af)).advance

/-- AAD, `D5 ib` (R171). -/
def execAad (imm : Byte) (s : State) : Host.Outcome State Fault Refusal :=
  toOutcome do
    s.checkNat [.eax]
    let al := s.reg8 .al + s.reg8 .ah * imm
    let s1 := (s.setStatus (unpackedFlags al s.fresh)).drew 1
    return (s1.set16 .eax ((0 : Byte) ++ al)).advance

/-- AAM, `D4 ib` (R172). -/
def execAam (imm : Byte) (s : State) : Host.Outcome State Fault Refusal :=
  toOutcome do
    s.checkNat [.eax]
    stopIf (imm == 0) (s.raise .de)
    let al := s.reg8 .al % imm
    let s1 := (s.setStatus (unpackedFlags al s.fresh)).drew 1
    return (s1.set16 .eax ((s.reg8 .al / imm) ++ al)).advance

/-- DAA, `27` (R174). -/
def execDaa (s : State) : Host.Outcome State Fault Refusal :=
  toOutcome do
    s.checkNat [.eax]
    let p := daaResult s.packed
    let s1 := (s.setStatus (packedFlags p s.fresh)).drew 1
    return (s1.set8 .al p.al).advance

/-- DAS, `2F` (R175). -/
def execDas (s : State) : Host.Outcome State Fault Refusal :=
  toOutcome do
    s.checkNat [.eax]
    let p := dasResult s.cfg.bcdVariant s.packed
    let s1 := (s.setStatus (packedFlags p s.fresh)).drew 1
    return (s1.set8 .al p.al).advance

end Sys2Proof.Machine
end

