-- ==== Sys2Proof/Machine/Bits.lean ====
section
/-! DEFINITION. BSF, BSR, BSWAP, BT, BTC, BTR and BTS (43_bit_scan_test.md). -/

namespace Sys2Proof.Machine

/-- The least `i` with bit `i` set (43_bit_scan_test.md R230). -/
def lowestBit {w : Nat} (v : BitVec w) : Option Nat := (List.range w).find? fun i => v.getLsbD i

/-- The greatest `i` with bit `i` set (43_bit_scan_test.md R231). -/
def highestBit {w : Nat} (v : BitVec w) : Option Nat := (List.range w).reverse.find? fun i => v.getLsbD i

/-- BSF and BSR (43_bit_scan_test.md R230, R231): with a zero source the destination is a free value. -/
def bitScan {w : Nat} (scan : BitVec w → Option Nat) (dst : Place w) (src : Place w) (s : State) :
    Host.Outcome State Fault Refusal :=
  toOutcome do
    s.checkNat src.regs
    let v ← s.readOperand (.place src)
    let s1 := (s.setStatus { freeStatus s.fresh with zf := v == 0 }).drew 2
    let index : BitVec w :=
      match scan v with
      | some i => BitVec.ofNat w i
      | none => (s.drew 1).fresh.setWidth w
    return (s1.poke dst [] index).advance

/-- The bytes of a doubleword in the other order (43_bit_scan_test.md R233). -/
def swapBytes (v : DWord) : DWord :=
  v.extractLsb' 0 8 ++ v.extractLsb' 8 8 ++ v.extractLsb' 16 8 ++ v.extractLsb' 24 8

/-- The four bit tests. -/
inductive BitOp where
  | bt
  | btc
  | btr
  | bts
deriving DecidableEq, Repr

/-- The new value of the addressed bit (43_bit_scan_test.md R239 to R242). -/
def BitOp.newBit (op : BitOp) (b : Bool) : Bool :=
  match op with
  | .bt => b
  | .btc => !b
  | .btr => false
  | .bts => true

/-- BT reads only (43_bit_scan_test.md R239). -/
def BitOp.kind : BitOp → AccessKind
  | .bt => .read
  | .btc => .write
  | .btr => .write
  | .bts => .write

/-- The lock intercept of an access to a bit; BT carries no LOCK prefix (20_memory.md R106, R107). -/
def State.checkBitLock (s : State) (op : BitOp) (lock : Bool) (m : MemOp) (off : DWord) (n : Nat) : Result Unit :=
  match op with
  | .bt => .ok ()
  | .btc => s.checkLock .btc lock m off n
  | .btr => s.checkLock .btr lock m off n
  | .bts => s.checkLock .bts lock m off n

/-- A value with one bit replaced. -/
def setBit {w : Nat} (v : BitVec w) (k : Nat) (b : Bool) : BitVec w :=
  match b with
  | true => v ||| BitVec.twoPow w k
  | false => v &&& ~~~BitVec.twoPow w k

/-- A bit of a string in memory: the offset and the number of the bytes accessed, and the bit's number in them
(43_bit_scan_test.md R238). -/
structure BitSite where
  off : DWord
  bytes : Nat
  bit : Nat
deriving DecidableEq, Repr

/-- The access (a) of one byte or (b) of the operand's width (43_bit_scan_test.md R237, R238), for the signed bit offset
`o` from the effective address `ea`; divisions round toward minus infinity. -/
def bitSite (w : Nat) (wide : Bool) (a : OpSize) (ea : DWord) (o : Int) : BitSite :=
  match wide with
  | true =>
    { off := a.wrap (ea + BitVec.ofInt 32 ((w / 8 : Nat) * (o / (w : Int)))), bytes := w / 8, bit := (o % (w : Int)).toNat }
  | false => { off := a.wrap (ea + BitVec.ofInt 32 (o / 8)), bytes := 1, bit := (o % 8).toNat }

/-- Whether an execution accesses the operand's width (00_scope.md R9 `bt_access_width`; 43_bit_scan_test.md R238). -/
def State.bitWide (s : State) : Bool :=
  match s.cfg.btWideAccess with
  | .never => false
  | .always => true
  | .perExecution => freeChoice s.fresh

/-- The checks of an access to one bit: the physical addresses of the bytes accessed, and the bit's number in the value
(43_bit_scan_test.md R237, R238). -/
def State.openBit (s : State) (op : BitOp) (lock : Bool) {w : Nat} (base : Place w) (o : BitVec w) :
    Result (List Nat × Nat) :=
  match base, o with
  | .r8 _, o => .ok ([], o.toNat % 8)
  | .r16 _, o => .ok ([], o.toNat % 16)
  | .r32 _, o => .ok ([], o.toNat % 32)
  | .mem (w := w) m, o => do
    let site := bitSite w s.bitWide m.ea.addrSize (s.offset m.ea) o.toInt
    s.checkBitLock op lock m site.off site.bytes
    let addrs ← s.segAccess m.seg m.ea.addrSize site.off [site.bytes] op.kind
    return (addrs, site.bit)

/-- The state after the addressed bit is written; BT writes nothing. -/
def State.pokeBit (s : State) (op : BitOp) {w : Nat} (base : Place w) (addrs : List Nat) (v : BitVec w) : State :=
  match op with
  | .bt => s
  | .btc => s.poke base addrs v
  | .btr => s.poke base addrs v
  | .bts => s.poke base addrs v

/-- BT, BTC, BTR and BTS (43_bit_scan_test.md R236 to R242). BTC, BTR and BTS read memory at the addresses of their write
access (log 37). -/
def bitTest (op : BitOp) (lock : Bool) {w : Nat} (base : Place w) (off : Operand w) (s : State) :
    Host.Outcome State Fault Refusal :=
  toOutcome do
    s.checkNat (base.regs ++ off.regs)
    let (addrs, k) ← s.openBit op lock base (s.operand off [])
    let v := s.peek base addrs
    let b := v.getLsbD k
    let s1 := (s.setStatus { freeStatus s.fresh with cf := b }).drew 1
    return (s1.pokeBit op base addrs (setBit v k (op.newBit b))).advance

/-- An immediate bit offset, reduced modulo the operand size (43_bit_scan_test.md R237). -/
def bitImm (w : Nat) (imm : Byte) : Operand w := .imm (BitVec.ofNat w (imm.toNat % w))

/-- BSF, `0F BC` (R230). -/
def execBsfR16Rm16 (r : Reg) (rm : RM) (s : State) : Host.Outcome State Fault Refusal :=
  bitScan lowestBit (.r16 r) rm.place16 s

/-- BSF, `0F BC` (R230). -/
def execBsfR32Rm32 (r : Reg) (rm : RM) (s : State) : Host.Outcome State Fault Refusal :=
  bitScan lowestBit (.r32 r) rm.place32 s

/-- BSR, `0F BD` (R231). -/
def execBsrR16Rm16 (r : Reg) (rm : RM) (s : State) : Host.Outcome State Fault Refusal :=
  bitScan highestBit (.r16 r) rm.place16 s

/-- BSR, `0F BD` (R231). -/
def execBsrR32Rm32 (r : Reg) (rm : RM) (s : State) : Host.Outcome State Fault Refusal :=
  bitScan highestBit (.r32 r) rm.place32 s

/-- BSWAP, `0F C8+rd` (R233): with operand size 16 the whole register is a free value (log 7). -/
def execBswap (size : OpSize) (r : Reg) (s : State) : Host.Outcome State Fault Refusal :=
  toOutcome do
    s.checkNat [r]
    match size with
    | .s32 => return (s.set32 r (swapBytes (s.reg32 r))).advance
    | .s16 => return ((s.set32 r s.fresh).drew 1).advance

/-- BT, `0F A3` (R239). -/
def execBtRm16R16 (rm : RM) (r : Reg) (s : State) : Host.Outcome State Fault Refusal :=
  bitTest .bt false rm.place16 (.place (.r16 r)) s

/-- BT, `0F A3` (R239). -/
def execBtRm32R32 (rm : RM) (r : Reg) (s : State) : Host.Outcome State Fault Refusal :=
  bitTest .bt false rm.place32 (.place (.r32 r)) s

/-- BT, `0F BA /4` (R239). -/
def execBtRm16Ib (rm : RM) (imm : Byte) (s : State) : Host.Outcome State Fault Refusal :=
  bitTest .bt false rm.place16 (bitImm 16 imm) s

/-- BT, `0F BA /4` (R239). -/
def execBtRm32Ib (rm : RM) (imm : Byte) (s : State) : Host.Outcome State Fault Refusal :=
  bitTest .bt false rm.place32 (bitImm 32 imm) s

/-- BTC, `0F BB` (R240). -/
def execBtcRm16R16 (lock : Bool) (rm : RM) (r : Reg) (s : State) : Host.Outcome State Fault Refusal :=
  bitTest .btc lock rm.place16 (.place (.r16 r)) s

/-- BTC, `0F BB` (R240). -/
def execBtcRm32R32 (lock : Bool) (rm : RM) (r : Reg) (s : State) : Host.Outcome State Fault Refusal :=
  bitTest .btc lock rm.place32 (.place (.r32 r)) s

/-- BTC, `0F BA /7` (R240). -/
def execBtcRm16Ib (lock : Bool) (rm : RM) (imm : Byte) (s : State) : Host.Outcome State Fault Refusal :=
  bitTest .btc lock rm.place16 (bitImm 16 imm) s

/-- BTC, `0F BA /7` (R240). -/
def execBtcRm32Ib (lock : Bool) (rm : RM) (imm : Byte) (s : State) : Host.Outcome State Fault Refusal :=
  bitTest .btc lock rm.place32 (bitImm 32 imm) s

/-- BTR, `0F B3` (R241). -/
def execBtrRm16R16 (lock : Bool) (rm : RM) (r : Reg) (s : State) : Host.Outcome State Fault Refusal :=
  bitTest .btr lock rm.place16 (.place (.r16 r)) s

/-- BTR, `0F B3` (R241). -/
def execBtrRm32R32 (lock : Bool) (rm : RM) (r : Reg) (s : State) : Host.Outcome State Fault Refusal :=
  bitTest .btr lock rm.place32 (.place (.r32 r)) s

/-- BTR, `0F BA /6` (R241). -/
def execBtrRm16Ib (lock : Bool) (rm : RM) (imm : Byte) (s : State) : Host.Outcome State Fault Refusal :=
  bitTest .btr lock rm.place16 (bitImm 16 imm) s

/-- BTR, `0F BA /6` (R241). -/
def execBtrRm32Ib (lock : Bool) (rm : RM) (imm : Byte) (s : State) : Host.Outcome State Fault Refusal :=
  bitTest .btr lock rm.place32 (bitImm 32 imm) s

/-- BTS, `0F AB` (R242). -/
def execBtsRm16R16 (lock : Bool) (rm : RM) (r : Reg) (s : State) : Host.Outcome State Fault Refusal :=
  bitTest .bts lock rm.place16 (.place (.r16 r)) s

/-- BTS, `0F AB` (R242). -/
def execBtsRm32R32 (lock : Bool) (rm : RM) (r : Reg) (s : State) : Host.Outcome State Fault Refusal :=
  bitTest .bts lock rm.place32 (.place (.r32 r)) s

/-- BTS, `0F BA /5` (R242). -/
def execBtsRm16Ib (lock : Bool) (rm : RM) (imm : Byte) (s : State) : Host.Outcome State Fault Refusal :=
  bitTest .bts lock rm.place16 (bitImm 16 imm) s

/-- BTS, `0F BA /5` (R242). -/
def execBtsRm32Ib (lock : Bool) (rm : RM) (imm : Byte) (s : State) : Host.Outcome State Fault Refusal :=
  bitTest .bts lock rm.place32 (bitImm 32 imm) s

end Sys2Proof.Machine
end

