-- ==== Sys2Proof/Machine/Call.lean ====
section
/-! DEFINITION. CALL (44_call.md): the near forms, the far forms of real-address and virtual-8086 mode, and the far forms
of protected mode through code segments, call gates, task gates and task state segments. -/

namespace Sys2Proof.Machine

/-! ## Common parts -/

/-- The taken-branch trap after a completed call: it carries the state after the CALL (44_call.md R268; 60_exceptions.md
R359). -/
def finishCall (s : State) : Result State :=
  if s.itaniumSE && s.psr.tb then .error (.fault (.debugTrap s)) else .ok s

/-- A selector pushed as a doubleword: its 16 high-order bits are a free value (20_memory.md R97; log 7). -/
def paddedSelector (sel : Word) (free : DWord) : DWord := free.extractLsb' 0 16 ++ sel

/-- The state after pushes whose slots have been checked, and the stack pointer moved (20_memory.md R97). -/
def State.pushed (s : State) (slots : List DWord) (addrs : List (List Nat)) (vals : List DWord) : State :=
  (s.storeSlots addrs vals).setSp s.stackSize (slots.getLastD s.sp)

/-- The return address of a far call, in the order of its pushes: CS, then the instruction pointer (44_call.md R256,
R259). -/
def State.farReturn (s : State) : List DWord := [paddedSelector s.segs.cs.selector s.fresh, s.nextPc]

def State.setCs (s : State) (g : Segment) : State := { s with segs := { s.segs with cs := g } }

def State.setPc (s : State) (v : DWord) : State := { s with pc := v }

/-! ## Near calls -/

/-- A near call to an offset (44_call.md R251, R252): the target, the room, the access, then the push. -/
def nearCall (n : OpSize) (target : DWord) (s : State) : Result State := do
  stopIf (decide (s.segs.cs.limit.toNat < target.toNat)) s.gp0
  stopIf (!s.segs.ss.hasRoom n.bytes (s.slots n 1)) s.ss0
  let addrs ← s.openSlots n.bytes (s.slots n 1)
  finishCall ((s.pushed (s.slots n 1) addrs [s.nextPc]).setPc target)

/-- CALL, `E8` (R251). -/
def execCallRel16 (rel : Word) (s : State) : Host.Outcome State Fault Refusal :=
  toOutcome do
    s.checkNat [.esp]
    nearCall .s16 (OpSize.s16.wrap (s.nextPc + rel.signExtend 32)) s

/-- CALL, `E8` (R251). -/
def execCallRel32 (rel : DWord) (s : State) : Host.Outcome State Fault Refusal :=
  toOutcome do
    s.checkNat [.esp]
    nearCall .s32 (s.nextPc + rel) s

/-- CALL, `FF /2` (R252): the target is read before ESP changes. -/
def execCallRm16 (rm : RM) (s : State) : Host.Outcome State Fault Refusal :=
  toOutcome do
    s.checkNat (.esp :: rm.place16.regs)
    let target ← s.readOperand (.place rm.place16)
    nearCall .s16 (target.setWidth 32) s

/-- CALL, `FF /2` (R252): the target is read before ESP changes. -/
def execCallRm32 (rm : RM) (s : State) : Host.Outcome State Fault Refusal :=
  toOutcome do
    s.checkNat (.esp :: rm.place32.regs)
    let target ← s.readOperand (.place rm.place32)
    nearCall .s32 target s

/-! ## Far calls in real-address and virtual-8086 mode -/

/-- CS as these modes load it: base `selector * 16`, limit FFFFH, every other part as it was (10_state.md R53; log 24). -/
def Segment.loadReal (g : Segment) (sel : Word) : Segment :=
  { g with selector := sel, base := sel.setWidth 32 <<< 4, limit := 0xFFFF }

/-- A far call in real-address or virtual-8086 mode (44_call.md R256). -/
def farReal (n : OpSize) (sel : Word) (off : DWord) (s : State) : Result State := do
  stopIf (!s.segs.ss.hasRoom n.bytes (s.slots n 2)) s.ss0
  stopIf (decide ((s.segs.cs.loadReal sel).limit.toNat < (n.wrap off).toNat)) s.gp0
  let addrs ← s.openSlots n.bytes (s.slots n 2)
  finishCall
    ((((s.pushed (s.slots n 2) addrs s.farReturn).setCs (s.segs.cs.loadReal sel)).setPc (n.wrap off)).drew 1)

/-! ## Descriptors (44_call.md R258) -/

/-- The present bit P. -/
def descPresent (d : QWord) : Bool := d.getLsbD 47

def descDpl (d : QWord) : BitVec 2 := d.extractLsb' 45 2

def descType (d : QWord) : BitVec 4 := d.extractLsb' 40 4

def descBase (d : QWord) : DWord := d.extractLsb' 56 8 ++ d.extractLsb' 16 24

/-- The effective limit, by the granularity bit G. -/
def descLimit (d : QWord) : DWord :=
  match d.getLsbD 55 with
  | true => d.extractLsb' 48 4 ++ d.extractLsb' 0 16 ++ (0xFFF : BitVec 12)
  | false => (d.extractLsb' 48 4 ++ d.extractLsb' 0 16).setWidth 32

/-- What a descriptor describes. -/
inductive DescKind where
  | code
  | data
  | tss (busy : Bool)
  | callGate (size : OpSize)
  | taskGate
  | other
deriving DecidableEq, Repr

/-- The kind of a system descriptor, S = 0, by its type. -/
def systemKind (t : BitVec 4) : DescKind :=
  match t.toNat with
  | 1 => .tss false
  | 3 => .tss true
  | 4 => .callGate .s16
  | 5 => .taskGate
  | 9 => .tss false
  | 0xB => .tss true
  | 0xC => .callGate .s32
  | _ => .other

/-- The kind of a descriptor, by S and its type. -/
def descKind (d : QWord) : DescKind :=
  match d.getLsbD 44, d.getLsbD 43 with
  | true, true => .code
  | true, false => .data
  | false, _ => systemKind (descType d)

/-- The segment register part that a code or data descriptor gives (10_state.md R52). -/
def Segment.ofDescriptor (sel : Word) (d : QWord) : Segment :=
  { selector := sel
    base := descBase d
    limit := descLimit d
    present := descPresent d
    writable := !d.getLsbD 43 && d.getLsbD 41
    readable := !d.getLsbD 43 || d.getLsbD 41
    executable := d.getLsbD 43
    expandDown := !d.getLsbD 43 && d.getLsbD 42
    big := d.getLsbD 54
    dpl := descDpl d
    conforming := d.getLsbD 43 && d.getLsbD 42 }

/-- The selector of a gate, in its bytes 2 and 3 (44_call.md R258); that a task gate has its TSS selector there too is
presumed (log 39). -/
def gateSelector (d : QWord) : Word := d.extractLsb' 16 16

/-- The offset of a call gate, of its size. -/
def gateOffset (g : OpSize) (d : QWord) : DWord :=
  match g with
  | .s16 => (d.extractLsb' 0 16).setWidth 32
  | .s32 => d.extractLsb' 48 16 ++ d.extractLsb' 0 16

/-- The parameter count of a call gate, masked to 5 bits. -/
def gateCount (d : QWord) : Nat := (d.extractLsb' 32 5).toNat

/-- The descriptor index of a selector. -/
def selectorIndex (sel : Word) : Nat := (sel.extractLsb' 3 13).toNat

/-- The table indicator of a selector: true for the LDT. -/
def selectorLocal (sel : Word) : Bool := sel.getLsbD 2

/-- Whether a selector's descriptor is within its table's limits; an LDT that is not present has none (log 22). -/
def State.inTable (s : State) (sel : Word) : Bool :=
  match selectorLocal sel with
  | true => s.ldtr.present && decide (selectorIndex sel * 8 + 7 ≤ s.ldtr.limit.toNat)
  | false => decide (selectorIndex sel * 8 + 7 ≤ s.gdtr.limit.toNat)

def State.tableBase (s : State) (sel : Word) : DWord :=
  match selectorLocal sel with
  | true => s.ldtr.base
  | false => s.gdtr.base

/-- The descriptor of a selector. -/
def State.readDescriptor (s : State) (sel : Word) : Result QWord :=
  s.systemRead 64 (s.tableBase sel + BitVec.ofNat 32 (selectorIndex sel * 8)) 8

/-! ## Far calls in protected mode -/

/-- Whether a code segment may be called directly: a conforming one at the caller's level or a more privileged one, a
nonconforming one at the caller's level only (44_call.md R259, R260). -/
def State.deniedCode (s : State) (sel : Word) (d : QWord) : Bool :=
  match d.getLsbD 42 with
  | true => decide (s.cpl.toNat < (descDpl d).toNat)
  | false => decide (s.cpl.toNat < (rpl sel).toNat) || descDpl d != s.cpl

/-- Pushes the far return address and goes to `target` in a code segment, at the same privilege level: the room, the
limit, the access, then the pushes (44_call.md R259, R260, R265). -/
def callSegment (n : OpSize) (sel : Word) (d : QWord) (target : DWord) (s : State) : Result State := do
  stopIf (!s.segs.ss.hasRoom n.bytes (s.slots n 2)) s.ss0
  stopIf (decide ((descLimit d).toNat < target.toNat)) s.gp0
  let addrs ← s.openSlots n.bytes (s.slots n 2)
  return (((s.pushed (s.slots n 2) addrs s.farReturn).setCs (Segment.ofDescriptor (withRpl sel s.cpl) d)).setPc
    target).drew 1

/-- A far call to a conforming or nonconforming code segment (44_call.md R259, R260). -/
def farCode (n : OpSize) (sel : Word) (off : DWord) (d : QWord) (s : State) : Result State := do
  stopIf (s.deniedCode sel d) (s.raiseSel .gp sel)
  stopIf (!descPresent d) (s.raiseSel .np sel)
  let s1 ← callSegment n sel d (n.wrap off) s
  finishCall s1

/-- The privilege test of a gate or TSS descriptor (44_call.md R261, R266, R267). -/
def State.deniedGate (s : State) (sel : Word) (d : QWord) : Bool :=
  decide ((descDpl d).toNat < s.cpl.toNat) || decide ((descDpl d).toNat < (rpl sel).toNat)

/-- The stack of an inner privilege level: SS and ESP (44_call.md R264). -/
structure NewStack where
  sel : Word
  esp : DWord
deriving DecidableEq, Repr

/-- The stack fields of the current TSS for a privilege level (44_call.md R264). -/
def State.readTssStack (s : State) (level : BitVec 2) : Result NewStack :=
  match s.tr.is32 with
  | true => do
    stopIf (decide (s.tr.limit.toNat < level.toNat * 8 + 4 + 7)) (s.raiseSel .ts s.tr.selector)
    let esp : DWord ← s.systemRead 32 (s.tr.base + BitVec.ofNat 32 (level.toNat * 8 + 4)) 4
    let sel : Word ← s.systemRead 16 (s.tr.base + BitVec.ofNat 32 (level.toNat * 8 + 8)) 2
    return { sel := sel, esp := esp }
  | false => do
    stopIf (decide (s.tr.limit.toNat < level.toNat * 4 + 2 + 4)) (s.raiseSel .ts s.tr.selector)
    let sp : Word ← s.systemRead 16 (s.tr.base + BitVec.ofNat 32 (level.toNat * 4 + 2)) 2
    let sel : Word ← s.systemRead 16 (s.tr.base + BitVec.ofNat 32 (level.toNat * 4 + 4)) 2
    return { sel := sel, esp := sp.setWidth 32 }

/-- The checks of a new stack segment, and its segment part (44_call.md R264). -/
def State.openNewStack (s : State) (level : BitVec 2) (sel : Word) : Result Segment := do
  stopIf (nullSelector sel) (s.raiseSel .ts sel)
  stopIf (!s.inTable sel) (s.raiseSel .ts sel)
  let d ← s.readDescriptor sel
  stopIf (rpl sel != level || descDpl d != level || !(descKind d == .data && d.getLsbD 41)) (s.raiseSel .ts sel)
  stopIf (!descPresent d) (s.raiseSel .ss sel)
  return Segment.ofDescriptor sel d

/-- The stack address size of a new stack segment, in protected mode (30_encoding.md R131). -/
def Segment.stackSize (g : Segment) : OpSize := if g.big then .s32 else .s16

/-- The first `n` addresses of each of `count` items. -/
def chunks (n : Nat) : Nat → List Nat → List (List Nat)
  | 0, _ => []
  | count + 1, l => l.take n :: chunks n count (l.drop n)

/-- The parameters on the calling procedure's stack, lowest address first (44_call.md R264). That they are one access,
with one limit test of all their bytes, is the model's choice (log 40). -/
def State.readParameters (s : State) (n : OpSize) (count : Nat) : Result (List DWord) :=
  match count with
  | 0 => .ok []
  | c + 1 => do
    let addrs ← s.segAccess .ss s.stackSize s.sp (List.replicate (c + 1) n.bytes) .read
    return (chunks n.bytes (c + 1) addrs).map fun l => s.load 32 l

/-- The alignment check and translation of the pushes to a new stack, in their order (44_call.md R264; 20_memory.md R95,
R97): CPL is still the caller's, since R264 sets it after the pushes (log 22). -/
def State.openNewSlots (s : State) (g : Segment) (n : Nat) : List DWord → Result (List (List Nat))
  | [] => .ok []
  | off :: l => do
    s.checkAlignment g g.stackSize off .write 0 [n]
    let p ← s.translateAll .write (g.linears g.stackSize off n)
    let ps ← s.openNewSlots g n l
    return p :: ps

/-- ESP after the pushes to a new stack: with a 16-bit stack its bits 31:16 are those of the value loaded
(44_call.md R264; 20_memory.md R97). -/
def newEsp (g : Segment) (loaded last : DWord) : DWord :=
  match g.stackSize with
  | .s32 => last
  | .s16 => withWord loaded (last.extractLsb' 0 16)

/-- What a call through a gate to a more privileged level pushes, in the order of the pushes (44_call.md R264). -/
def State.switchValues (s : State) (params : List DWord) : List DWord :=
  [paddedSelector s.segs.ss.selector s.fresh, s.regs.esp] ++ params.reverse ++
    [paddedSelector s.segs.cs.selector (s.drew 1).fresh, s.nextPc]

/-- The registers a stack switch loads (44_call.md R264). -/
def State.switched (s : State) (ss cs : Segment) (esp target : DWord) (level : BitVec 2) : State :=
  { s with
    segs := { s.segs with ss := ss, cs := cs }
    regs := { s.regs with esp := esp }
    pc := target
    cpl := level }

/-- MORE-PRIVILEGE (44_call.md R264): every check before any write. That the parameters are read before the pushes to the new
stack are checked is the model's choice (log 38). -/
def morePrivilege (g : OpSize) (gate : QWord) (csel : Word) (c : QWord) (s : State) : Result State := do
  let stack ← s.readTssStack (descDpl c)
  let ss ← s.openNewStack (descDpl c) stack.sel
  let slots := pushSlots ss.stackSize g.bytes (ss.stackSize.wrap stack.esp) (gateCount gate + 4)
  stopIf (!ss.hasRoom g.bytes slots) (s.raiseSel .ss stack.sel)
  stopIf (decide ((descLimit c).toNat < (gateOffset g gate).toNat)) s.gp0
  let params ← s.readParameters g (gateCount gate)
  let addrs ← s.openNewSlots ss g.bytes slots
  return (((s.storeSlots addrs (s.switchValues params)).switched ss (Segment.ofDescriptor (withRpl csel (descDpl c)) c)
    (newEsp ss stack.esp (slots.getLastD stack.esp)) (gateOffset g gate) (descDpl c))).drew 2

/-- CALL-GATE, second part (44_call.md R263). -/
def gateTarget (g : OpSize) (gate : QWord) (s : State) : Result State := do
  let csel := gateSelector gate
  stopIf (nullSelector csel) s.gp0
  stopIf (!s.inTable csel) (s.raiseSel .gp csel)
  let c ← s.readDescriptor csel
  stopIf (descKind c != .code || decide (s.cpl.toNat < (descDpl c).toNat)) (s.raiseSel .gp csel)
  stopIf (!descPresent c) (s.raiseSel .np csel)
  match !c.getLsbD 42 && decide ((descDpl c).toNat < s.cpl.toNat) with
  | true => morePrivilege g gate csel c s
  | false => callSegment g csel c (gateOffset g gate) s

/-- CALL-GATE (44_call.md R261, R262). -/
def farCallGate (g : OpSize) (sel : Word) (gate : QWord) (s : State) : Result State := do
  stopIf (s.deniedGate sel gate) (s.raiseSel .gp sel)
  stopIf (!descPresent gate) (s.raiseSel .np sel)
  stopIf s.itaniumSE (s.raiseIntercept .gateCall)
  gateTarget g gate s

/-- TASK-GATE: its printed checks, then a refusal, since no source defines SWITCH-TASKS (44_call.md R266; log 23). Where
the gate holds its TSS selector is presumed (log 39). -/
def farTaskGate (sel : Word) (gate : QWord) (s : State) : Result State := do
  stopIf (s.deniedGate sel gate) (s.raiseSel .gp sel)
  stopIf (!descPresent gate) (s.raiseSel .np sel)
  stopIf s.itaniumSE (s.raiseIntercept .gateCall)
  let tsel := gateSelector gate
  stopIf (selectorLocal tsel || !s.inTable tsel) (s.raiseSel .gp tsel)
  let t ← s.readDescriptor tsel
  stopIf (descKind t != .tss false) (s.raiseSel .gp tsel)
  stopIf (!descPresent t) (s.raiseSel .np tsel)
  .error (.refused .taskSwitch)

/-- TASK-STATE-SEGMENT: its printed checks, then a refusal, since no source defines SWITCH-TASKS (44_call.md R267). -/
def farTss (sel : Word) (busy : Bool) (d : QWord) (s : State) : Result State := do
  stopIf (s.deniedGate sel d || selectorLocal sel || busy) (s.raiseSel .gp sel)
  stopIf (!descPresent d) (s.raiseSel .np sel)
  stopIf s.itaniumSE (s.raiseIntercept .gateCall)
  .error (.refused .taskSwitch)

/-- A far call in protected mode (44_call.md R257). -/
def farProtected (n : OpSize) (sel : Word) (off : DWord) (s : State) : Result State := do
  stopIf (nullSelector sel) s.gp0
  stopIf (!s.inTable sel) (s.raiseSel .gp sel)
  let d ← s.readDescriptor sel
  match descKind d with
  | .code => farCode n sel off d s
  | .callGate g => farCallGate g sel d s
  | .taskGate => farTaskGate sel d s
  | .tss busy => farTss sel busy d s
  | .data => .error (s.raiseSel .gp sel)
  | .other => .error (s.raiseSel .gp sel)

/-- A far call (44_call.md R254, R255). -/
def farCall (n : OpSize) (sel : Word) (off : DWord) (s : State) : Result State :=
  match s.protectedMode with
  | true => farProtected n sel off s
  | false => farReal n sel off s

/-- A far pointer in memory: the offset, then the selector (44_call.md R255). -/
def State.readFarPointer (s : State) (n : OpSize) (m : MemOp) : Result (Word × DWord) := do
  let addrs ← s.memAccess m [n.bytes, 2] .read
  return (s.load 16 (addrs.drop n.bytes), s.load 32 (addrs.take n.bytes))

/-- CALL, `9A cd` (R254). -/
def execCallPtr16 (sel : Word) (off : Word) (s : State) : Host.Outcome State Fault Refusal :=
  toOutcome do
    s.checkNat [.esp]
    farCall .s16 sel (off.setWidth 32) s

/-- CALL, `9A cp` (R254). -/
def execCallPtr32 (sel : Word) (off : DWord) (s : State) : Host.Outcome State Fault Refusal :=
  toOutcome do
    s.checkNat [.esp]
    farCall .s32 sel off s

/-- CALL, `FF /3` (R255). -/
def execCallM16x16 (m : MemOp) (s : State) : Host.Outcome State Fault Refusal :=
  toOutcome do
    s.checkNat (.esp :: m.ea.regs)
    let p ← s.readFarPointer .s16 m
    farCall .s16 p.1 p.2 s

/-- CALL, `FF /3` (R255). -/
def execCallM16x32 (m : MemOp) (s : State) : Host.Outcome State Fault Refusal :=
  toOutcome do
    s.checkNat (.esp :: m.ea.regs)
    let p ← s.readFarPointer .s32 m
    farCall .s32 p.1 p.2 s

end Sys2Proof.Machine
end

