-- ==== Sys2Proof/Machine/Cmov.lean ====
section
/-! DEFINITION. CMOVcc (46_cmov_string_cmpxchg.md R300 to R317). -/

namespace Sys2Proof.Machine

/-- The sixteen conditions, in the order of their codes (46_cmov_string_cmpxchg.md R301). -/
inductive Cond where
  | o
  | no
  | b
  | ae
  | e
  | ne
  | be
  | a
  | s
  | ns
  | p
  | np
  | l
  | ge
  | le
  | g
deriving DecidableEq, Repr

/-- When a condition holds (46_cmov_string_cmpxchg.md R301). -/
def condition (c : Cond) (f : StatusFlags) : Bool :=
  match c with
  | .o => f.ofl
  | .no => !f.ofl
  | .b => f.cf
  | .ae => !f.cf
  | .e => f.zf
  | .ne => !f.zf
  | .be => f.cf || f.zf
  | .a => !f.cf && !f.zf
  | .s => f.sf
  | .ns => !f.sf
  | .p => f.pf
  | .np => !f.pf
  | .l => f.sf != f.ofl
  | .ge => f.sf == f.ofl
  | .le => f.zf || f.sf != f.ofl
  | .g => !f.zf && f.sf == f.ofl

/-- Whether a memory source is loaded although the condition is false (00_scope.md R9 `cmov_false_loads`;
46_cmov_string_cmpxchg.md R300). -/
def State.cmovLoads (s : State) : Bool :=
  match s.cfg.cmovFalseLoads with
  | .never => false
  | .always => true
  | .perExecution => freeChoice s.fresh

/-- The state after the choice of `cmovLoads`: an execution that chose anew has drawn. -/
def State.cmovDrew (s : State) : State :=
  match s.cfg.cmovFalseLoads with
  | .never => s
  | .always => s
  | .perExecution => s.drew 1

/-- CMOVcc with a false condition: a register source is read without effect, a memory source may be loaded
(46_cmov_string_cmpxchg.md R300). -/
def cmovFalse {w : Nat} (src : Place w) (s : State) : Result State :=
  match src with
  | .r8 _ => .ok s
  | .r16 _ => .ok s
  | .r32 _ => .ok s
  | .mem (w := w) m =>
    match s.cmovLoads with
    | true => do
      let _ ← s.openPlace (w := w) (.mem m) .read
      return s.cmovDrew
    | false => .ok s.cmovDrew

/-- CMOVcc (46_cmov_string_cmpxchg.md R300). A NaT bit of an address register aborts before the condition is tested, also
where no load is made (log 28). -/
def cmov (c : Cond) {w : Nat} (dst src : Place w) (s : State) : Host.Outcome State Fault Refusal :=
  toOutcome do
    s.checkNat (dst.regs ++ src.regs)
    match condition c s.status with
    | true =>
      let v ← s.readOperand (.place src)
      return (s.poke dst [] v).advance
    | false =>
      let s1 ← cmovFalse src s
      return s1.advance

/-- CMOVO, `0F 40` (R302). -/
def execCmovO16 (r : Reg) (rm : RM) (s : State) : Host.Outcome State Fault Refusal :=
  cmov .o (.r16 r) rm.place16 s

/-- CMOVO, `0F 40` (R302). -/
def execCmovO32 (r : Reg) (rm : RM) (s : State) : Host.Outcome State Fault Refusal :=
  cmov .o (.r32 r) rm.place32 s

/-- CMOVNO, `0F 41` (R303). -/
def execCmovNo16 (r : Reg) (rm : RM) (s : State) : Host.Outcome State Fault Refusal :=
  cmov .no (.r16 r) rm.place16 s

/-- CMOVNO, `0F 41` (R303). -/
def execCmovNo32 (r : Reg) (rm : RM) (s : State) : Host.Outcome State Fault Refusal :=
  cmov .no (.r32 r) rm.place32 s

/-- CMOVB, `0F 42` (R304). -/
def execCmovB16 (r : Reg) (rm : RM) (s : State) : Host.Outcome State Fault Refusal :=
  cmov .b (.r16 r) rm.place16 s

/-- CMOVB, `0F 42` (R304). -/
def execCmovB32 (r : Reg) (rm : RM) (s : State) : Host.Outcome State Fault Refusal :=
  cmov .b (.r32 r) rm.place32 s

/-- CMOVAE, `0F 43` (R305). -/
def execCmovAe16 (r : Reg) (rm : RM) (s : State) : Host.Outcome State Fault Refusal :=
  cmov .ae (.r16 r) rm.place16 s

/-- CMOVAE, `0F 43` (R305). -/
def execCmovAe32 (r : Reg) (rm : RM) (s : State) : Host.Outcome State Fault Refusal :=
  cmov .ae (.r32 r) rm.place32 s

/-- CMOVE, `0F 44` (R306). -/
def execCmovE16 (r : Reg) (rm : RM) (s : State) : Host.Outcome State Fault Refusal :=
  cmov .e (.r16 r) rm.place16 s

/-- CMOVE, `0F 44` (R306). -/
def execCmovE32 (r : Reg) (rm : RM) (s : State) : Host.Outcome State Fault Refusal :=
  cmov .e (.r32 r) rm.place32 s

/-- CMOVNE, `0F 45` (R307). -/
def execCmovNe16 (r : Reg) (rm : RM) (s : State) : Host.Outcome State Fault Refusal :=
  cmov .ne (.r16 r) rm.place16 s

/-- CMOVNE, `0F 45` (R307). -/
def execCmovNe32 (r : Reg) (rm : RM) (s : State) : Host.Outcome State Fault Refusal :=
  cmov .ne (.r32 r) rm.place32 s

/-- CMOVBE, `0F 46` (R308). -/
def execCmovBe16 (r : Reg) (rm : RM) (s : State) : Host.Outcome State Fault Refusal :=
  cmov .be (.r16 r) rm.place16 s

/-- CMOVBE, `0F 46` (R308). -/
def execCmovBe32 (r : Reg) (rm : RM) (s : State) : Host.Outcome State Fault Refusal :=
  cmov .be (.r32 r) rm.place32 s

/-- CMOVA, `0F 47` (R309). -/
def execCmovA16 (r : Reg) (rm : RM) (s : State) : Host.Outcome State Fault Refusal :=
  cmov .a (.r16 r) rm.place16 s

/-- CMOVA, `0F 47` (R309). -/
def execCmovA32 (r : Reg) (rm : RM) (s : State) : Host.Outcome State Fault Refusal :=
  cmov .a (.r32 r) rm.place32 s

/-- CMOVS, `0F 48` (R310). -/
def execCmovS16 (r : Reg) (rm : RM) (s : State) : Host.Outcome State Fault Refusal :=
  cmov .s (.r16 r) rm.place16 s

/-- CMOVS, `0F 48` (R310). -/
def execCmovS32 (r : Reg) (rm : RM) (s : State) : Host.Outcome State Fault Refusal :=
  cmov .s (.r32 r) rm.place32 s

/-- CMOVNS, `0F 49` (R311). -/
def execCmovNs16 (r : Reg) (rm : RM) (s : State) : Host.Outcome State Fault Refusal :=
  cmov .ns (.r16 r) rm.place16 s

/-- CMOVNS, `0F 49` (R311). -/
def execCmovNs32 (r : Reg) (rm : RM) (s : State) : Host.Outcome State Fault Refusal :=
  cmov .ns (.r32 r) rm.place32 s

/-- CMOVP, `0F 4A` (R312). -/
def execCmovP16 (r : Reg) (rm : RM) (s : State) : Host.Outcome State Fault Refusal :=
  cmov .p (.r16 r) rm.place16 s

/-- CMOVP, `0F 4A` (R312). -/
def execCmovP32 (r : Reg) (rm : RM) (s : State) : Host.Outcome State Fault Refusal :=
  cmov .p (.r32 r) rm.place32 s

/-- CMOVNP, `0F 4B` (R313). -/
def execCmovNp16 (r : Reg) (rm : RM) (s : State) : Host.Outcome State Fault Refusal :=
  cmov .np (.r16 r) rm.place16 s

/-- CMOVNP, `0F 4B` (R313). -/
def execCmovNp32 (r : Reg) (rm : RM) (s : State) : Host.Outcome State Fault Refusal :=
  cmov .np (.r32 r) rm.place32 s

/-- CMOVL, `0F 4C` (R314). -/
def execCmovL16 (r : Reg) (rm : RM) (s : State) : Host.Outcome State Fault Refusal :=
  cmov .l (.r16 r) rm.place16 s

/-- CMOVL, `0F 4C` (R314). -/
def execCmovL32 (r : Reg) (rm : RM) (s : State) : Host.Outcome State Fault Refusal :=
  cmov .l (.r32 r) rm.place32 s

/-- CMOVGE, `0F 4D` (R315). -/
def execCmovGe16 (r : Reg) (rm : RM) (s : State) : Host.Outcome State Fault Refusal :=
  cmov .ge (.r16 r) rm.place16 s

/-- CMOVGE, `0F 4D` (R315). -/
def execCmovGe32 (r : Reg) (rm : RM) (s : State) : Host.Outcome State Fault Refusal :=
  cmov .ge (.r32 r) rm.place32 s

/-- CMOVLE, `0F 4E` (R316). -/
def execCmovLe16 (r : Reg) (rm : RM) (s : State) : Host.Outcome State Fault Refusal :=
  cmov .le (.r16 r) rm.place16 s

/-- CMOVLE, `0F 4E` (R316). -/
def execCmovLe32 (r : Reg) (rm : RM) (s : State) : Host.Outcome State Fault Refusal :=
  cmov .le (.r32 r) rm.place32 s

/-- CMOVG, `0F 4F` (R317). -/
def execCmovG16 (r : Reg) (rm : RM) (s : State) : Host.Outcome State Fault Refusal :=
  cmov .g (.r16 r) rm.place16 s

/-- CMOVG, `0F 4F` (R317). -/
def execCmovG32 (r : Reg) (rm : RM) (s : State) : Host.Outcome State Fault Refusal :=
  cmov .g (.r32 r) rm.place32 s

end Sys2Proof.Machine
end

