-- ==== Sys2Proof/Machine/Convert.lean ====
section
/-! DEFINITION. CBW, CWDE, CWD, CDQ, CLC, CLD, CMC, CLI and CLTS (45_convert_and_flag_control.md). -/

namespace Sys2Proof.Machine

/-- CBW, `98` (R280). -/
def execCbw (s : State) : Host.Outcome State Fault Refusal :=
  toOutcome do
    s.checkNat [.eax]
    return (s.set16 .eax ((s.reg8 .al).signExtend 16)).advance

/-- CWDE, `98` (R282). -/
def execCwde (s : State) : Host.Outcome State Fault Refusal :=
  toOutcome do
    s.checkNat [.eax]
    return (s.set32 .eax ((s.reg16 .eax).signExtend 32)).advance

/-- CWD, `99` (R281). -/
def execCwd (s : State) : Host.Outcome State Fault Refusal :=
  toOutcome do
    s.checkNat [.eax]
    return (s.set16 .edx (if (s.reg16 .eax).msb then 0xFFFF else 0)).advance

/-- CDQ, `99` (R283). -/
def execCdq (s : State) : Host.Outcome State Fault Refusal :=
  toOutcome do
    s.checkNat [.eax]
    return (s.set32 .edx (if (s.reg32 .eax).msb then 0xFFFFFFFF else 0)).advance

/-- CLC, `F8` (R284). -/
def execClc (s : State) : Host.Outcome State Fault Refusal :=
  .next { s with status := { s.status with cf := false } }.advance

/-- CLD, `FC` (R285). -/
def execCld (s : State) : Host.Outcome State Fault Refusal :=
  .next { s with flags := { s.flags with df := false } }.advance

/-- CMC, `F5` (R286). -/
def execCmc (s : State) : Host.Outcome State Fault Refusal :=
  .next { s with status := { s.status with cf := !s.status.cf } }.advance

/-- What CLI does: clear IF, clear VIF, or raise `#GP(0)` (45_convert_and_flag_control.md R290). -/
inductive CliAction where
  | clearIf
  | clearVif
  | protection
deriving DecidableEq, Repr

/-- CLI in protected mode, and with CR4.PVI clear (45_convert_and_flag_control.md R290). -/
def cliByLevel (s : State) : CliAction := if s.flags.iopl.toNat < s.cpl.toNat then .protection else .clearIf

/-- The decision of CLI (45_convert_and_flag_control.md R290), in the order its Operation prints. -/
def cliAction (s : State) : CliAction :=
  if s.cr0.pe = false then .clearIf
  else if s.flags.vm = false then
    if s.cr4.pvi = true then
      if s.cpl = 3 then (if s.flags.iopl.toNat < 3 then .clearVif else .clearIf)
      else cliByLevel s
    else cliByLevel s
  else if s.flags.iopl = 3 then .clearIf
  else if s.cr4.vme = false then .protection
  else .clearVif

/-- CLI's System Flag intercept, a trap: it carries the state after the instruction (45_convert_and_flag_control.md R290;
60_exceptions.md R358). -/
def cliFinish (old : Bool) (s : State) : Result State :=
  if s.itaniumSE && s.cflg.ii && s.flags.ifl != old then .error (.fault (.systemFlagTrap s)) else .ok s

/-- CLI, `FA` (R290). -/
def execCli (s : State) : Host.Outcome State Fault Refusal :=
  toOutcome
    (match cliAction s with
    | .clearIf => cliFinish s.flags.ifl { s with flags := { s.flags with ifl := false } }.advance
    | .clearVif => cliFinish s.flags.ifl { s with flags := { s.flags with vif := false } }.advance
    | .protection => .error s.gp0)

/-- CLTS, `0F 06` (R292): the intercept before the privilege test. -/
def execClts (s : State) : Host.Outcome State Fault Refusal :=
  toOutcome do
    stopIf s.itaniumSE (s.raiseIntercept .instClts)
    stopIf (!s.realMode && s.cpl != 0) s.gp0
    return { s with cr0 := { s.cr0 with ts := false } }.advance

end Sys2Proof.Machine
end

