-- ==== Sys2Proof/Machine/Cpuid.lean ====
section
/-! DEFINITION. CPUID (47_cpuid.md). -/

namespace Sys2Proof.Machine

/-- What the configuration holds for a leaf (47_cpuid.md R330; log 21). -/
def configRow (c : CpuidConfig) (leaf : DWord) : CpuidRow :=
  match c.leaves.lookup leaf with
  | some r => r
  | none =>
    { eax := Config.freeCpuid leaf 0, ebx := Config.freeCpuid leaf 1, ecx := Config.freeCpuid leaf 2,
      edx := Config.freeCpuid leaf 3 }

/-- Leaf 1 EBX: the brand index is 0 (47_cpuid.md R332). -/
def leaf1Ebx (v : DWord) : DWord := v &&& 0xFFFFFF00

/-- Leaf 1 EDX: bit 30 marks this hardware, and bits 15 (CMOV) and 8 (CX8) are required (47_cpuid.md R332, R334). -/
def leaf1Edx (v : DWord) : DWord := v ||| 0x40008100

/-- The configuration's values for a leaf, with what 47_cpuid.md R332 fixes in leaves 0, 1 and 80000000H. -/
def cpuidFixed (c : CpuidConfig) (leaf : DWord) : CpuidRow :=
  match leaf.toNat with
  | 0 => { eax := c.maxBasic, ebx := 0x756E6547, ecx := 0x6C65746E, edx := 0x49656E69 }
  | 1 => { configRow c leaf with ebx := leaf1Ebx (configRow c leaf).ebx, edx := leaf1Edx (configRow c leaf).edx }
  | 0x80000000 => { configRow c leaf with eax := c.maxExtended }
  | _ => configRow c leaf

/-- The bits of a leaf's registers that are reserved (47_cpuid.md R331, R333, R335), which are drawn at each execution
(70_reset_and_hazards.md R419; 92_eei_decisions.md D20; log 21). -/
def cpuidReserved (leaf : DWord) : CpuidRow :=
  match leaf.toNat with
  | 1 => { eax := 0xF000C000, ebx := 0, ecx := 0xFFFFFFFF, edx := 0x00000400 }
  | 0x80000000 => { eax := 0, ebx := 0xFFFFFFFF, ecx := 0xFFFFFFFF, edx := 0xFFFFFFFF }
  | 0x80000001 => { eax := 0xFFFFFFFF, ebx := 0xFFFFFFFF, ecx := 0xFFFFFFFF, edx := 0xFFFFFFFF }
  | _ => { eax := 0, ebx := 0, ecx := 0, edx := 0 }

/-- A value with the bits of a mask taken from another one; the empty and the full mask stand apart, so that a register with
no free bit, or none but free ones, is plain to evaluate. -/
def maskedBits (mask free v : DWord) : DWord :=
  if mask = 0 then v
  else if mask = 0xFFFFFFFF then free
  else (v &&& ~~~mask) ||| (free &&& mask)

/-- The same, register by register. -/
def maskedRow (mask free v : CpuidRow) : CpuidRow :=
  { eax := maskedBits mask.eax free.eax v.eax
    ebx := maskedBits mask.ebx free.ebx v.ebx
    ecx := maskedBits mask.ecx free.ecx v.ecx
    edx := maskedBits mask.edx free.edx v.edx }

/-- Whether a leaf is at most the highest one of its range (47_cpuid.md R330). -/
def cpuidInRange (c : CpuidConfig) (leaf : DWord) : Bool :=
  if leaf.toNat < 0x80000000 then decide (leaf.toNat ≤ c.maxBasic.toNat) else decide (leaf.toNat ≤ c.maxExtended.toNat)

/-- What a leaf returns: up to the highest leaf of its range the configuration's values with the reserved bits free, above it
"Reserved, Undefined", four free values (47_cpuid.md R330). -/
def cpuidRow (c : CpuidConfig) (leaf : DWord) (free : CpuidRow) : CpuidRow :=
  match cpuidInRange c leaf with
  | true => maskedRow (cpuidReserved leaf) free (cpuidFixed c leaf)
  | false => free

/-- Four free values, one for each output register (47_cpuid.md R330; log 7). -/
def State.freeRow (s : State) : CpuidRow :=
  { eax := s.fresh, ebx := (s.drew 1).fresh, ecx := (s.drew 2).fresh, edx := (s.drew 3).fresh }

/-- The four output registers. -/
def State.setCpuid (s : State) (r : CpuidRow) : State :=
  (((s.set32 .eax r.eax).set32 .ebx r.ebx).set32 .ecx r.ecx).set32 .edx r.edx

/-- The memory fence and the serialization: every earlier store is visible to fetching from now on (47_cpuid.md R338;
20_memory.md R111, R112). -/
def State.serialize (s : State) : State := { s with stored := [] }

/-- CPUID, `0F A2` (R330). -/
def execCpuid (s : State) : Host.Outcome State Fault Refusal :=
  toOutcome do
    s.checkNat [.eax]
    return ((s.setCpuid (cpuidRow s.cfg.cpuid (s.reg32 .eax) s.freeRow)).drew 4).serialize.advance

end Sys2Proof.Machine
end

