-- ==== Sys2Proof/Machine/Exchange.lean ====
section
/-! DEFINITION. CMPXCHG and CMPXCHG8B (46_cmov_string_cmpxchg.md R318 to R321). -/

namespace Sys2Proof.Machine

/-- CMPXCHG (46_cmov_string_cmpxchg.md R318): the flags of accumulator minus destination, and a write to the destination
whatever the comparison gives (20_memory.md R104). A memory destination is read at the addresses of its write access
(log 37). -/
def cmpxchg (lock : Bool) {w : Nat} (acc dst src : Place w) (s : State) : Host.Outcome State Fault Refusal :=
  toOutcome do
    s.checkNat (acc.regs ++ dst.regs ++ src.regs)
    s.checkLockPlace .cmpxchg lock dst
    let addrs ← s.openPlace dst .write
    let a := s.peek acc []
    let d := s.peek dst addrs
    let s1 := (s.setStatus (subFlags a d)).poke acc [] d
    return (s1.poke dst addrs (if a = d then s.peek src [] else d)).advance

/-- CMPXCHG, `0F B0 /r` (R318). -/
def execCmpxchgRm8R8 (lock : Bool) (rm : RM8) (r : Reg8) (s : State) : Host.Outcome State Fault Refusal :=
  cmpxchg lock (.r8 .al) rm.place (.r8 r) s

/-- CMPXCHG, `0F B1 /r` (R318). -/
def execCmpxchgRm16R16 (lock : Bool) (rm : RM) (r : Reg) (s : State) : Host.Outcome State Fault Refusal :=
  cmpxchg lock (.r16 .eax) rm.place16 (.r16 r) s

/-- CMPXCHG, `0F B1 /r` (R318). -/
def execCmpxchgRm32R32 (lock : Bool) (rm : RM) (r : Reg) (s : State) : Host.Outcome State Fault Refusal :=
  cmpxchg lock (.r32 .eax) rm.place32 (.r32 r) s

/-- EDX:EAX. -/
def State.edxEax (s : State) : QWord := s.reg32 .edx ++ s.reg32 .eax

/-- ECX:EBX. -/
def State.ecxEbx (s : State) : QWord := s.reg32 .ecx ++ s.reg32 .ebx

/-- CMPXCHG8B, `0F C7 /1` (R321). The destination is read at the addresses of its write access (log 37). -/
def execCmpxchg8b (lock : Bool) (m : MemOp) (s : State) : Host.Outcome State Fault Refusal :=
  toOutcome do
    s.checkNat ([.eax, .ebx, .ecx, .edx] ++ m.ea.regs)
    s.checkLock .cmpxchg8b lock m (s.offset m.ea) 8
    let addrs ← s.memAccess m [8] .write
    let d : QWord := s.load 64 addrs
    let s1 := { s with status := { s.status with zf := s.edxEax == d } }
    let s2 := (s1.set32 .edx (d.extractLsb' 32 32)).set32 .eax (d.extractLsb' 0 32)
    return (s2.store addrs (if s.edxEax = d then s.ecxEbx else d)).advance

end Sys2Proof.Machine
end

