-- ==== Sys2Proof/Machine/Protection.lean ====
section
/-! DEFINITION. ARPL and BOUND (42_protection_bounds.md). -/

namespace Sys2Proof.Machine

/-- The state after ARPL's comparison (42_protection_bounds.md R221): a store only when the RPL changes. -/
def arplResult (dst : Place 16) (addrs : List Nat) (d v : Word) (s : State) : State :=
  match decide ((rpl d).toNat < (rpl v).toNat) with
  | true => { s with status := { s.status with zf := true } }.poke dst addrs (withRpl d (rpl v))
  | false => { s with status := { s.status with zf := false } }

/-- ARPL, `63 /r` (R221). A memory destination is read at the addresses of its write access (log 37). -/
def execArpl (rm : RM) (r : Reg) (s : State) : Host.Outcome State Fault Refusal :=
  toOutcome do
    stopIf (!s.protectedMode) (s.raise .ud)
    s.checkNat (rm.place16.regs ++ [r])
    let addrs ← s.openPlace rm.place16 .write
    return (arplResult rm.place16 addrs (s.peek rm.place16 addrs) (s.reg16 r) s).advance

/-- `bound_upper_slack` for an operand of `n` bytes (42_protection_bounds.md R223). -/
def boundSlack (v : BoundSlack) (n : Nat) : Int :=
  match v with
  | .operandBytes => (n : Int)
  | .zero => 0

/-- Whether the bounds test fails, in unbounded integers (42_protection_bounds.md R223). -/
def outOfBounds (index lower upper slack : Int) : Bool := decide (index < lower) || decide (upper + slack < index)

/-- BOUND (42_protection_bounds.md R223): one operand of two items of `w / 8` bytes, the lower bound first. -/
def bound {w : Nat} (index : Place w) (m : MemOp) (s : State) : Host.Outcome State Fault Refusal :=
  toOutcome do
    s.checkNat (index.regs ++ m.ea.regs)
    let addrs ← s.memAccess m [w / 8, w / 8] .read
    let lower : BitVec w := s.load w (addrs.take (w / 8))
    let upper : BitVec w := s.load w (addrs.drop (w / 8))
    stopIf (outOfBounds (s.peek index []).toInt lower.toInt upper.toInt (boundSlack s.cfg.boundSlack (w / 8)))
      (s.raise .br)
    return s.advance

/-- BOUND, `62 /r` (R223). -/
def execBoundR16 (r : Reg) (m : MemOp) (s : State) : Host.Outcome State Fault Refusal := bound (.r16 r) m s

/-- BOUND, `62 /r` (R223). -/
def execBoundR32 (r : Reg) (m : MemOp) (s : State) : Host.Outcome State Fault Refusal := bound (.r32 r) m s

end Sys2Proof.Machine
end

