-- ==== Sys2Proof/Machine/Strings.lean ====
section
/-! DEFINITION. CMPSB, CMPSW and CMPSD (46_cmov_string_cmpxchg.md R322 to R325). -/

namespace Sys2Proof.Machine

/-- SI or ESI, DI or EDI, by the address size (46_cmov_string_cmpxchg.md R322). -/
def State.index (s : State) (a : OpSize) (r : Reg) : DWord := a.wrap (s.reg32 r)

/-- The state after an index register of the address size is moved on by `n` bytes, up or down as DF says
(46_cmov_string_cmpxchg.md R322). -/
def State.stepIndex (s : State) (a : OpSize) (r : Reg) (n : Nat) : State :=
  match a, s.flags.df with
  | .s16, false => s.set16 r (s.reg16 r + BitVec.ofNat 16 n)
  | .s16, true => s.set16 r (s.reg16 r - BitVec.ofNat 16 n)
  | .s32, false => s.set32 r (s.reg32 r + BitVec.ofNat 32 n)
  | .s32, true => s.set32 r (s.reg32 r - BitVec.ofNat 32 n)

/-- CMPS (46_cmov_string_cmpxchg.md R322): both reads, then the flags and the index registers. -/
def cmps (w : Nat) (a : OpSize) (seg : SegReg) (s : State) : Host.Outcome State Fault Refusal :=
  toOutcome do
    s.checkNat [.esi, .edi]
    let src1 ← s.segAccess seg a (s.index a .esi) [w / 8] .read
    let src2 ← s.segAccess .es a (s.index a .edi) [w / 8] .read
    let s1 := s.setStatus (subFlags (s.load w src1) (s.load w src2))
    return ((s1.stepIndex a .esi (w / 8)).stepIndex a .edi (w / 8)).advance

/-- CMPSB, `A6` (R323). -/
def execCmpsb (addr : OpSize) (seg : SegReg) (s : State) : Host.Outcome State Fault Refusal := cmps 8 addr seg s

/-- CMPSW, `A7` (R324). -/
def execCmpsw (addr : OpSize) (seg : SegReg) (s : State) : Host.Outcome State Fault Refusal := cmps 16 addr seg s

/-- CMPSD, `A7` (R325). -/
def execCmpsd (addr : OpSize) (seg : SegReg) (s : State) : Host.Outcome State Fault Refusal := cmps 32 addr seg s

end Sys2Proof.Machine
end

