-- ==== Sys2Proof/Machine/Dispatch.lean ====
section
/-! DEFINITION. Which meaning each instruction has. -/

namespace Sys2Proof.Machine

def exec (i : Instr) (s : State) : Host.Outcome State Fault Refusal :=
  match i with
  | .aaa => Sys2Proof.Machine.execAaa s
  | .aad imm => Sys2Proof.Machine.execAad imm s
  | .aam imm => Sys2Proof.Machine.execAam imm s
  | .aas => Sys2Proof.Machine.execAas s
  | .adcAlIb imm => Sys2Proof.Machine.execAdcAlIb imm s
  | .adcAxIw imm => Sys2Proof.Machine.execAdcAxIw imm s
  | .adcEaxId imm => Sys2Proof.Machine.execAdcEaxId imm s
  | .adcRm8Ib lock rm imm => Sys2Proof.Machine.execAdcRm8Ib lock rm imm s
  | .adcRm16Iw lock rm imm => Sys2Proof.Machine.execAdcRm16Iw lock rm imm s
  | .adcRm32Id lock rm imm => Sys2Proof.Machine.execAdcRm32Id lock rm imm s
  | .adcRm16Ib lock rm imm => Sys2Proof.Machine.execAdcRm16Ib lock rm imm s
  | .adcRm32Ib lock rm imm => Sys2Proof.Machine.execAdcRm32Ib lock rm imm s
  | .adcRm8R8 lock rm r => Sys2Proof.Machine.execAdcRm8R8 lock rm r s
  | .adcRm16R16 lock rm r => Sys2Proof.Machine.execAdcRm16R16 lock rm r s
  | .adcRm32R32 lock rm r => Sys2Proof.Machine.execAdcRm32R32 lock rm r s
  | .adcR8Rm8 r rm => Sys2Proof.Machine.execAdcR8Rm8 r rm s
  | .adcR16Rm16 r rm => Sys2Proof.Machine.execAdcR16Rm16 r rm s
  | .adcR32Rm32 r rm => Sys2Proof.Machine.execAdcR32Rm32 r rm s
  | .addAlIb imm => Sys2Proof.Machine.execAddAlIb imm s
  | .addAxIw imm => Sys2Proof.Machine.execAddAxIw imm s
  | .addEaxId imm => Sys2Proof.Machine.execAddEaxId imm s
  | .addRm8Ib lock rm imm => Sys2Proof.Machine.execAddRm8Ib lock rm imm s
  | .addRm16Iw lock rm imm => Sys2Proof.Machine.execAddRm16Iw lock rm imm s
  | .addRm32Id lock rm imm => Sys2Proof.Machine.execAddRm32Id lock rm imm s
  | .addRm16Ib lock rm imm => Sys2Proof.Machine.execAddRm16Ib lock rm imm s
  | .addRm32Ib lock rm imm => Sys2Proof.Machine.execAddRm32Ib lock rm imm s
  | .addRm8R8 lock rm r => Sys2Proof.Machine.execAddRm8R8 lock rm r s
  | .addRm16R16 lock rm r => Sys2Proof.Machine.execAddRm16R16 lock rm r s
  | .addRm32R32 lock rm r => Sys2Proof.Machine.execAddRm32R32 lock rm r s
  | .addR8Rm8 r rm => Sys2Proof.Machine.execAddR8Rm8 r rm s
  | .addR16Rm16 r rm => Sys2Proof.Machine.execAddR16Rm16 r rm s
  | .addR32Rm32 r rm => Sys2Proof.Machine.execAddR32Rm32 r rm s
  | .andAlIb imm => Sys2Proof.Machine.execAndAlIb imm s
  | .andAxIw imm => Sys2Proof.Machine.execAndAxIw imm s
  | .andEaxId imm => Sys2Proof.Machine.execAndEaxId imm s
  | .andRm8Ib lock rm imm => Sys2Proof.Machine.execAndRm8Ib lock rm imm s
  | .andRm16Iw lock rm imm => Sys2Proof.Machine.execAndRm16Iw lock rm imm s
  | .andRm32Id lock rm imm => Sys2Proof.Machine.execAndRm32Id lock rm imm s
  | .andRm16Ib lock rm imm => Sys2Proof.Machine.execAndRm16Ib lock rm imm s
  | .andRm32Ib lock rm imm => Sys2Proof.Machine.execAndRm32Ib lock rm imm s
  | .andRm8R8 lock rm r => Sys2Proof.Machine.execAndRm8R8 lock rm r s
  | .andRm16R16 lock rm r => Sys2Proof.Machine.execAndRm16R16 lock rm r s
  | .andRm32R32 lock rm r => Sys2Proof.Machine.execAndRm32R32 lock rm r s
  | .andR8Rm8 r rm => Sys2Proof.Machine.execAndR8Rm8 r rm s
  | .andR16Rm16 r rm => Sys2Proof.Machine.execAndR16Rm16 r rm s
  | .andR32Rm32 r rm => Sys2Proof.Machine.execAndR32Rm32 r rm s
  | .arpl rm r => Sys2Proof.Machine.execArpl rm r s
  | .boundR16 r m => Sys2Proof.Machine.execBoundR16 r m s
  | .boundR32 r m => Sys2Proof.Machine.execBoundR32 r m s
  | .bsfR16Rm16 r rm => Sys2Proof.Machine.execBsfR16Rm16 r rm s
  | .bsfR32Rm32 r rm => Sys2Proof.Machine.execBsfR32Rm32 r rm s
  | .bsrR16Rm16 r rm => Sys2Proof.Machine.execBsrR16Rm16 r rm s
  | .bsrR32Rm32 r rm => Sys2Proof.Machine.execBsrR32Rm32 r rm s
  | .bswap size r => Sys2Proof.Machine.execBswap size r s
  | .btRm16R16 rm r => Sys2Proof.Machine.execBtRm16R16 rm r s
  | .btRm32R32 rm r => Sys2Proof.Machine.execBtRm32R32 rm r s
  | .btRm16Ib rm imm => Sys2Proof.Machine.execBtRm16Ib rm imm s
  | .btRm32Ib rm imm => Sys2Proof.Machine.execBtRm32Ib rm imm s
  | .btcRm16R16 lock rm r => Sys2Proof.Machine.execBtcRm16R16 lock rm r s
  | .btcRm32R32 lock rm r => Sys2Proof.Machine.execBtcRm32R32 lock rm r s
  | .btcRm16Ib lock rm imm => Sys2Proof.Machine.execBtcRm16Ib lock rm imm s
  | .btcRm32Ib lock rm imm => Sys2Proof.Machine.execBtcRm32Ib lock rm imm s
  | .btrRm16R16 lock rm r => Sys2Proof.Machine.execBtrRm16R16 lock rm r s
  | .btrRm32R32 lock rm r => Sys2Proof.Machine.execBtrRm32R32 lock rm r s
  | .btrRm16Ib lock rm imm => Sys2Proof.Machine.execBtrRm16Ib lock rm imm s
  | .btrRm32Ib lock rm imm => Sys2Proof.Machine.execBtrRm32Ib lock rm imm s
  | .btsRm16R16 lock rm r => Sys2Proof.Machine.execBtsRm16R16 lock rm r s
  | .btsRm32R32 lock rm r => Sys2Proof.Machine.execBtsRm32R32 lock rm r s
  | .btsRm16Ib lock rm imm => Sys2Proof.Machine.execBtsRm16Ib lock rm imm s
  | .btsRm32Ib lock rm imm => Sys2Proof.Machine.execBtsRm32Ib lock rm imm s
  | .callRel16 rel => Sys2Proof.Machine.execCallRel16 rel s
  | .callRel32 rel => Sys2Proof.Machine.execCallRel32 rel s
  | .callRm16 rm => Sys2Proof.Machine.execCallRm16 rm s
  | .callRm32 rm => Sys2Proof.Machine.execCallRm32 rm s
  | .callPtr16 sel off => Sys2Proof.Machine.execCallPtr16 sel off s
  | .callPtr32 sel off => Sys2Proof.Machine.execCallPtr32 sel off s
  | .callM16x16 m => Sys2Proof.Machine.execCallM16x16 m s
  | .callM16x32 m => Sys2Proof.Machine.execCallM16x32 m s
  | .cbw => Sys2Proof.Machine.execCbw s
  | .cwde => Sys2Proof.Machine.execCwde s
  | .clc => Sys2Proof.Machine.execClc s
  | .cld => Sys2Proof.Machine.execCld s
  | .cli => Sys2Proof.Machine.execCli s
  | .clts => Sys2Proof.Machine.execClts s
  | .cmc => Sys2Proof.Machine.execCmc s
  | .cmovO16 r rm => Sys2Proof.Machine.execCmovO16 r rm s
  | .cmovO32 r rm => Sys2Proof.Machine.execCmovO32 r rm s
  | .cmovNo16 r rm => Sys2Proof.Machine.execCmovNo16 r rm s
  | .cmovNo32 r rm => Sys2Proof.Machine.execCmovNo32 r rm s
  | .cmovB16 r rm => Sys2Proof.Machine.execCmovB16 r rm s
  | .cmovB32 r rm => Sys2Proof.Machine.execCmovB32 r rm s
  | .cmovAe16 r rm => Sys2Proof.Machine.execCmovAe16 r rm s
  | .cmovAe32 r rm => Sys2Proof.Machine.execCmovAe32 r rm s
  | .cmovE16 r rm => Sys2Proof.Machine.execCmovE16 r rm s
  | .cmovE32 r rm => Sys2Proof.Machine.execCmovE32 r rm s
  | .cmovNe16 r rm => Sys2Proof.Machine.execCmovNe16 r rm s
  | .cmovNe32 r rm => Sys2Proof.Machine.execCmovNe32 r rm s
  | .cmovBe16 r rm => Sys2Proof.Machine.execCmovBe16 r rm s
  | .cmovBe32 r rm => Sys2Proof.Machine.execCmovBe32 r rm s
  | .cmovA16 r rm => Sys2Proof.Machine.execCmovA16 r rm s
  | .cmovA32 r rm => Sys2Proof.Machine.execCmovA32 r rm s
  | .cmovS16 r rm => Sys2Proof.Machine.execCmovS16 r rm s
  | .cmovS32 r rm => Sys2Proof.Machine.execCmovS32 r rm s
  | .cmovNs16 r rm => Sys2Proof.Machine.execCmovNs16 r rm s
  | .cmovNs32 r rm => Sys2Proof.Machine.execCmovNs32 r rm s
  | .cmovP16 r rm => Sys2Proof.Machine.execCmovP16 r rm s
  | .cmovP32 r rm => Sys2Proof.Machine.execCmovP32 r rm s
  | .cmovNp16 r rm => Sys2Proof.Machine.execCmovNp16 r rm s
  | .cmovNp32 r rm => Sys2Proof.Machine.execCmovNp32 r rm s
  | .cmovL16 r rm => Sys2Proof.Machine.execCmovL16 r rm s
  | .cmovL32 r rm => Sys2Proof.Machine.execCmovL32 r rm s
  | .cmovGe16 r rm => Sys2Proof.Machine.execCmovGe16 r rm s
  | .cmovGe32 r rm => Sys2Proof.Machine.execCmovGe32 r rm s
  | .cmovLe16 r rm => Sys2Proof.Machine.execCmovLe16 r rm s
  | .cmovLe32 r rm => Sys2Proof.Machine.execCmovLe32 r rm s
  | .cmovG16 r rm => Sys2Proof.Machine.execCmovG16 r rm s
  | .cmovG32 r rm => Sys2Proof.Machine.execCmovG32 r rm s
  | .cmpAlIb imm => Sys2Proof.Machine.execCmpAlIb imm s
  | .cmpAxIw imm => Sys2Proof.Machine.execCmpAxIw imm s
  | .cmpEaxId imm => Sys2Proof.Machine.execCmpEaxId imm s
  | .cmpRm8Ib rm imm => Sys2Proof.Machine.execCmpRm8Ib rm imm s
  | .cmpRm16Iw rm imm => Sys2Proof.Machine.execCmpRm16Iw rm imm s
  | .cmpRm32Id rm imm => Sys2Proof.Machine.execCmpRm32Id rm imm s
  | .cmpRm16Ib rm imm => Sys2Proof.Machine.execCmpRm16Ib rm imm s
  | .cmpRm32Ib rm imm => Sys2Proof.Machine.execCmpRm32Ib rm imm s
  | .cmpRm8R8 rm r => Sys2Proof.Machine.execCmpRm8R8 rm r s
  | .cmpRm16R16 rm r => Sys2Proof.Machine.execCmpRm16R16 rm r s
  | .cmpRm32R32 rm r => Sys2Proof.Machine.execCmpRm32R32 rm r s
  | .cmpR8Rm8 r rm => Sys2Proof.Machine.execCmpR8Rm8 r rm s
  | .cmpR16Rm16 r rm => Sys2Proof.Machine.execCmpR16Rm16 r rm s
  | .cmpR32Rm32 r rm => Sys2Proof.Machine.execCmpR32Rm32 r rm s
  | .cmpsb addr seg => Sys2Proof.Machine.execCmpsb addr seg s
  | .cmpsw addr seg => Sys2Proof.Machine.execCmpsw addr seg s
  | .cmpsd addr seg => Sys2Proof.Machine.execCmpsd addr seg s
  | .cmpxchgRm8R8 lock rm r => Sys2Proof.Machine.execCmpxchgRm8R8 lock rm r s
  | .cmpxchgRm16R16 lock rm r => Sys2Proof.Machine.execCmpxchgRm16R16 lock rm r s
  | .cmpxchgRm32R32 lock rm r => Sys2Proof.Machine.execCmpxchgRm32R32 lock rm r s
  | .cmpxchg8b lock m => Sys2Proof.Machine.execCmpxchg8b lock m s
  | .cpuid => Sys2Proof.Machine.execCpuid s
  | .cwd => Sys2Proof.Machine.execCwd s
  | .cdq => Sys2Proof.Machine.execCdq s
  | .daa => Sys2Proof.Machine.execDaa s
  | .das => Sys2Proof.Machine.execDas s
  | .decRm8 lock rm => Sys2Proof.Machine.execDecRm8 lock rm s
  | .decRm16 lock rm => Sys2Proof.Machine.execDecRm16 lock rm s
  | .decRm32 lock rm => Sys2Proof.Machine.execDecRm32 lock rm s
  | .decR16 r => Sys2Proof.Machine.execDecR16 r s
  | .decR32 r => Sys2Proof.Machine.execDecR32 r s
  | .divRm8 rm => Sys2Proof.Machine.execDivRm8 rm s
  | .divRm16 rm => Sys2Proof.Machine.execDivRm16 rm s
  | .divRm32 rm => Sys2Proof.Machine.execDivRm32 rm s

end Sys2Proof.Machine
end

