-- ==== Sys2Proof/WellFormed.lean ====
section
/-! DEFINITION. Which terms of `Instr` an encoding exists for (30_encoding.md R125; 20_memory.md R107). -/

namespace Sys2Proof

/-- ESP is no index: its code in the index field means "no index" (30_encoding.md R125). -/
def EffAddr.wellFormed : EffAddr → Bool
  | .a16 _ _ => true
  | .a32 _ none _ => true
  | .a32 _ (some (i, _)) _ => i != .esp

def MemOp.wellFormed (m : MemOp) : Bool := m.ea.wellFormed

def RM8.wellFormed : RM8 → Bool
  | .reg _ => true
  | .mem m => m.wellFormed

def RM.wellFormed : RM → Bool
  | .reg _ => true
  | .mem m => m.wellFormed

def RM8.isMem : RM8 → Bool
  | .reg _ => false
  | .mem _ => true

def RM.isMem : RM → Bool
  | .reg _ => false
  | .mem _ => true

/-- A LOCK prefix is legal only with a memory destination (20_memory.md R107). -/
def RM8.lockable (rm : RM8) (lock : Bool) : Bool := rm.wellFormed && (!lock || rm.isMem)

/-- A LOCK prefix is legal only with a memory destination (20_memory.md R107). -/
def RM.lockable (rm : RM) (lock : Bool) : Bool := rm.wellFormed && (!lock || rm.isMem)

/-- The instructions that an encoding exists for. -/
def Instr.wellFormed : Instr → Bool
  | .aaa => true
  | .aad _ => true
  | .aam _ => true
  | .aas => true
  | .adcAlIb _ => true
  | .adcAxIw _ => true
  | .adcEaxId _ => true
  | .adcRm8Ib lock rm _ => rm.lockable lock
  | .adcRm16Iw lock rm _ => rm.lockable lock
  | .adcRm32Id lock rm _ => rm.lockable lock
  | .adcRm16Ib lock rm _ => rm.lockable lock
  | .adcRm32Ib lock rm _ => rm.lockable lock
  | .adcRm8R8 lock rm _ => rm.lockable lock
  | .adcRm16R16 lock rm _ => rm.lockable lock
  | .adcRm32R32 lock rm _ => rm.lockable lock
  | .adcR8Rm8 _ rm => rm.wellFormed
  | .adcR16Rm16 _ rm => rm.wellFormed
  | .adcR32Rm32 _ rm => rm.wellFormed
  | .addAlIb _ => true
  | .addAxIw _ => true
  | .addEaxId _ => true
  | .addRm8Ib lock rm _ => rm.lockable lock
  | .addRm16Iw lock rm _ => rm.lockable lock
  | .addRm32Id lock rm _ => rm.lockable lock
  | .addRm16Ib lock rm _ => rm.lockable lock
  | .addRm32Ib lock rm _ => rm.lockable lock
  | .addRm8R8 lock rm _ => rm.lockable lock
  | .addRm16R16 lock rm _ => rm.lockable lock
  | .addRm32R32 lock rm _ => rm.lockable lock
  | .addR8Rm8 _ rm => rm.wellFormed
  | .addR16Rm16 _ rm => rm.wellFormed
  | .addR32Rm32 _ rm => rm.wellFormed
  | .andAlIb _ => true
  | .andAxIw _ => true
  | .andEaxId _ => true
  | .andRm8Ib lock rm _ => rm.lockable lock
  | .andRm16Iw lock rm _ => rm.lockable lock
  | .andRm32Id lock rm _ => rm.lockable lock
  | .andRm16Ib lock rm _ => rm.lockable lock
  | .andRm32Ib lock rm _ => rm.lockable lock
  | .andRm8R8 lock rm _ => rm.lockable lock
  | .andRm16R16 lock rm _ => rm.lockable lock
  | .andRm32R32 lock rm _ => rm.lockable lock
  | .andR8Rm8 _ rm => rm.wellFormed
  | .andR16Rm16 _ rm => rm.wellFormed
  | .andR32Rm32 _ rm => rm.wellFormed
  | .arpl rm _ => rm.wellFormed
  | .boundR16 _ m => m.wellFormed
  | .boundR32 _ m => m.wellFormed
  | .bsfR16Rm16 _ rm => rm.wellFormed
  | .bsfR32Rm32 _ rm => rm.wellFormed
  | .bsrR16Rm16 _ rm => rm.wellFormed
  | .bsrR32Rm32 _ rm => rm.wellFormed
  | .bswap _ _ => true
  | .btRm16R16 rm _ => rm.wellFormed
  | .btRm32R32 rm _ => rm.wellFormed
  | .btRm16Ib rm _ => rm.wellFormed
  | .btRm32Ib rm _ => rm.wellFormed
  | .btcRm16R16 lock rm _ => rm.lockable lock
  | .btcRm32R32 lock rm _ => rm.lockable lock
  | .btcRm16Ib lock rm _ => rm.lockable lock
  | .btcRm32Ib lock rm _ => rm.lockable lock
  | .btrRm16R16 lock rm _ => rm.lockable lock
  | .btrRm32R32 lock rm _ => rm.lockable lock
  | .btrRm16Ib lock rm _ => rm.lockable lock
  | .btrRm32Ib lock rm _ => rm.lockable lock
  | .btsRm16R16 lock rm _ => rm.lockable lock
  | .btsRm32R32 lock rm _ => rm.lockable lock
  | .btsRm16Ib lock rm _ => rm.lockable lock
  | .btsRm32Ib lock rm _ => rm.lockable lock
  | .callRel16 _ => true
  | .callRel32 _ => true
  | .callRm16 rm => rm.wellFormed
  | .callRm32 rm => rm.wellFormed
  | .callPtr16 _ _ => true
  | .callPtr32 _ _ => true
  | .callM16x16 m => m.wellFormed
  | .callM16x32 m => m.wellFormed
  | .cbw => true
  | .cwde => true
  | .clc => true
  | .cld => true
  | .cli => true
  | .clts => true
  | .cmc => true
  | .cmovO16 _ rm => rm.wellFormed
  | .cmovO32 _ rm => rm.wellFormed
  | .cmovNo16 _ rm => rm.wellFormed
  | .cmovNo32 _ rm => rm.wellFormed
  | .cmovB16 _ rm => rm.wellFormed
  | .cmovB32 _ rm => rm.wellFormed
  | .cmovAe16 _ rm => rm.wellFormed
  | .cmovAe32 _ rm => rm.wellFormed
  | .cmovE16 _ rm => rm.wellFormed
  | .cmovE32 _ rm => rm.wellFormed
  | .cmovNe16 _ rm => rm.wellFormed
  | .cmovNe32 _ rm => rm.wellFormed
  | .cmovBe16 _ rm => rm.wellFormed
  | .cmovBe32 _ rm => rm.wellFormed
  | .cmovA16 _ rm => rm.wellFormed
  | .cmovA32 _ rm => rm.wellFormed
  | .cmovS16 _ rm => rm.wellFormed
  | .cmovS32 _ rm => rm.wellFormed
  | .cmovNs16 _ rm => rm.wellFormed
  | .cmovNs32 _ rm => rm.wellFormed
  | .cmovP16 _ rm => rm.wellFormed
  | .cmovP32 _ rm => rm.wellFormed
  | .cmovNp16 _ rm => rm.wellFormed
  | .cmovNp32 _ rm => rm.wellFormed
  | .cmovL16 _ rm => rm.wellFormed
  | .cmovL32 _ rm => rm.wellFormed
  | .cmovGe16 _ rm => rm.wellFormed
  | .cmovGe32 _ rm => rm.wellFormed
  | .cmovLe16 _ rm => rm.wellFormed
  | .cmovLe32 _ rm => rm.wellFormed
  | .cmovG16 _ rm => rm.wellFormed
  | .cmovG32 _ rm => rm.wellFormed
  | .cmpAlIb _ => true
  | .cmpAxIw _ => true
  | .cmpEaxId _ => true
  | .cmpRm8Ib rm _ => rm.wellFormed
  | .cmpRm16Iw rm _ => rm.wellFormed
  | .cmpRm32Id rm _ => rm.wellFormed
  | .cmpRm16Ib rm _ => rm.wellFormed
  | .cmpRm32Ib rm _ => rm.wellFormed
  | .cmpRm8R8 rm _ => rm.wellFormed
  | .cmpRm16R16 rm _ => rm.wellFormed
  | .cmpRm32R32 rm _ => rm.wellFormed
  | .cmpR8Rm8 _ rm => rm.wellFormed
  | .cmpR16Rm16 _ rm => rm.wellFormed
  | .cmpR32Rm32 _ rm => rm.wellFormed
  | .cmpsb _ _ => true
  | .cmpsw _ _ => true
  | .cmpsd _ _ => true
  | .cmpxchgRm8R8 lock rm _ => rm.lockable lock
  | .cmpxchgRm16R16 lock rm _ => rm.lockable lock
  | .cmpxchgRm32R32 lock rm _ => rm.lockable lock
  | .cmpxchg8b _ m => m.wellFormed
  | .cpuid => true
  | .cwd => true
  | .cdq => true
  | .daa => true
  | .das => true
  | .decRm8 lock rm => rm.lockable lock
  | .decRm16 lock rm => rm.lockable lock
  | .decRm32 lock rm => rm.lockable lock
  | .decR16 _ => true
  | .decR32 _ => true
  | .divRm8 rm => rm.wellFormed
  | .divRm16 rm => rm.wellFormed
  | .divRm32 rm => rm.wellFormed

/-- Whether a LOCK prefix stands before the instruction (20_memory.md R107). -/
def Instr.locked : Instr → Bool
  | .aaa => false
  | .aad _ => false
  | .aam _ => false
  | .aas => false
  | .adcAlIb _ => false
  | .adcAxIw _ => false
  | .adcEaxId _ => false
  | .adcRm8Ib lock _ _ => lock
  | .adcRm16Iw lock _ _ => lock
  | .adcRm32Id lock _ _ => lock
  | .adcRm16Ib lock _ _ => lock
  | .adcRm32Ib lock _ _ => lock
  | .adcRm8R8 lock _ _ => lock
  | .adcRm16R16 lock _ _ => lock
  | .adcRm32R32 lock _ _ => lock
  | .adcR8Rm8 _ _ => false
  | .adcR16Rm16 _ _ => false
  | .adcR32Rm32 _ _ => false
  | .addAlIb _ => false
  | .addAxIw _ => false
  | .addEaxId _ => false
  | .addRm8Ib lock _ _ => lock
  | .addRm16Iw lock _ _ => lock
  | .addRm32Id lock _ _ => lock
  | .addRm16Ib lock _ _ => lock
  | .addRm32Ib lock _ _ => lock
  | .addRm8R8 lock _ _ => lock
  | .addRm16R16 lock _ _ => lock
  | .addRm32R32 lock _ _ => lock
  | .addR8Rm8 _ _ => false
  | .addR16Rm16 _ _ => false
  | .addR32Rm32 _ _ => false
  | .andAlIb _ => false
  | .andAxIw _ => false
  | .andEaxId _ => false
  | .andRm8Ib lock _ _ => lock
  | .andRm16Iw lock _ _ => lock
  | .andRm32Id lock _ _ => lock
  | .andRm16Ib lock _ _ => lock
  | .andRm32Ib lock _ _ => lock
  | .andRm8R8 lock _ _ => lock
  | .andRm16R16 lock _ _ => lock
  | .andRm32R32 lock _ _ => lock
  | .andR8Rm8 _ _ => false
  | .andR16Rm16 _ _ => false
  | .andR32Rm32 _ _ => false
  | .arpl _ _ => false
  | .boundR16 _ _ => false
  | .boundR32 _ _ => false
  | .bsfR16Rm16 _ _ => false
  | .bsfR32Rm32 _ _ => false
  | .bsrR16Rm16 _ _ => false
  | .bsrR32Rm32 _ _ => false
  | .bswap _ _ => false
  | .btRm16R16 _ _ => false
  | .btRm32R32 _ _ => false
  | .btRm16Ib _ _ => false
  | .btRm32Ib _ _ => false
  | .btcRm16R16 lock _ _ => lock
  | .btcRm32R32 lock _ _ => lock
  | .btcRm16Ib lock _ _ => lock
  | .btcRm32Ib lock _ _ => lock
  | .btrRm16R16 lock _ _ => lock
  | .btrRm32R32 lock _ _ => lock
  | .btrRm16Ib lock _ _ => lock
  | .btrRm32Ib lock _ _ => lock
  | .btsRm16R16 lock _ _ => lock
  | .btsRm32R32 lock _ _ => lock
  | .btsRm16Ib lock _ _ => lock
  | .btsRm32Ib lock _ _ => lock
  | .callRel16 _ => false
  | .callRel32 _ => false
  | .callRm16 _ => false
  | .callRm32 _ => false
  | .callPtr16 _ _ => false
  | .callPtr32 _ _ => false
  | .callM16x16 _ => false
  | .callM16x32 _ => false
  | .cbw => false
  | .cwde => false
  | .clc => false
  | .cld => false
  | .cli => false
  | .clts => false
  | .cmc => false
  | .cmovO16 _ _ => false
  | .cmovO32 _ _ => false
  | .cmovNo16 _ _ => false
  | .cmovNo32 _ _ => false
  | .cmovB16 _ _ => false
  | .cmovB32 _ _ => false
  | .cmovAe16 _ _ => false
  | .cmovAe32 _ _ => false
  | .cmovE16 _ _ => false
  | .cmovE32 _ _ => false
  | .cmovNe16 _ _ => false
  | .cmovNe32 _ _ => false
  | .cmovBe16 _ _ => false
  | .cmovBe32 _ _ => false
  | .cmovA16 _ _ => false
  | .cmovA32 _ _ => false
  | .cmovS16 _ _ => false
  | .cmovS32 _ _ => false
  | .cmovNs16 _ _ => false
  | .cmovNs32 _ _ => false
  | .cmovP16 _ _ => false
  | .cmovP32 _ _ => false
  | .cmovNp16 _ _ => false
  | .cmovNp32 _ _ => false
  | .cmovL16 _ _ => false
  | .cmovL32 _ _ => false
  | .cmovGe16 _ _ => false
  | .cmovGe32 _ _ => false
  | .cmovLe16 _ _ => false
  | .cmovLe32 _ _ => false
  | .cmovG16 _ _ => false
  | .cmovG32 _ _ => false
  | .cmpAlIb _ => false
  | .cmpAxIw _ => false
  | .cmpEaxId _ => false
  | .cmpRm8Ib _ _ => false
  | .cmpRm16Iw _ _ => false
  | .cmpRm32Id _ _ => false
  | .cmpRm16Ib _ _ => false
  | .cmpRm32Ib _ _ => false
  | .cmpRm8R8 _ _ => false
  | .cmpRm16R16 _ _ => false
  | .cmpRm32R32 _ _ => false
  | .cmpR8Rm8 _ _ => false
  | .cmpR16Rm16 _ _ => false
  | .cmpR32Rm32 _ _ => false
  | .cmpsb _ _ => false
  | .cmpsw _ _ => false
  | .cmpsd _ _ => false
  | .cmpxchgRm8R8 lock _ _ => lock
  | .cmpxchgRm16R16 lock _ _ => lock
  | .cmpxchgRm32R32 lock _ _ => lock
  | .cmpxchg8b lock _ => lock
  | .cpuid => false
  | .cwd => false
  | .cdq => false
  | .daa => false
  | .das => false
  | .decRm8 lock _ => lock
  | .decRm16 lock _ => lock
  | .decRm32 lock _ => lock
  | .decR16 _ => false
  | .decR32 _ => false
  | .divRm8 _ => false
  | .divRm16 _ => false
  | .divRm32 _ => false

end Sys2Proof
end

