-- ==== Sys2Proof/Decode.lean ====
section
/-! DEFINITION. The decoder of 30_encoding.md R120 to R144, total on any bytes, and after it an encoder, which writes one
encoding of every well-formed instruction from the same tables. -/

namespace Sys2Proof

/-! ## Register codes and fields -/

/-- The general register of a code (30_encoding.md R122). -/
def Reg.ofCode (c : BitVec 3) : Reg :=
  match c.toNat with
  | 0 => .eax
  | 1 => .ecx
  | 2 => .edx
  | 3 => .ebx
  | 4 => .esp
  | 5 => .ebp
  | 6 => .esi
  | _ => .edi

/-- The code of a general register (30_encoding.md R122). -/
def Reg.code : Reg → BitVec 3
  | .eax => 0
  | .ecx => 1
  | .edx => 2
  | .ebx => 3
  | .esp => 4
  | .ebp => 5
  | .esi => 6
  | .edi => 7

/-- The byte register of a code (30_encoding.md R122). -/
def Reg8.ofCode (c : BitVec 3) : Reg8 :=
  match c.toNat with
  | 0 => .al
  | 1 => .cl
  | 2 => .dl
  | 3 => .bl
  | 4 => .ah
  | 5 => .ch
  | 6 => .dh
  | _ => .bh

/-- The code of a byte register (30_encoding.md R122). -/
def Reg8.code : Reg8 → BitVec 3
  | .al => 0
  | .cl => 1
  | .dl => 2
  | .bl => 3
  | .ah => 4
  | .ch => 5
  | .dh => 6
  | .bh => 7

/-- The register sum of an `rm` code with 16-bit addressing (30_encoding.md R126). -/
def Base16.ofCode (c : BitVec 3) : Base16 :=
  match c.toNat with
  | 0 => .bxSi
  | 1 => .bxDi
  | 2 => .bpSi
  | 3 => .bpDi
  | 4 => .si
  | 5 => .di
  | 6 => .bp
  | _ => .bx

/-- The `rm` code of a 16-bit register sum (30_encoding.md R126). -/
def Base16.code : Base16 → BitVec 3
  | .bxSi => 0
  | .bxDi => 1
  | .bpSi => 2
  | .bpDi => 3
  | .si => 4
  | .di => 5
  | .bp => 6
  | .bx => 7

/-- The `mod` field of a ModR/M byte, and the `scale` field of a SIB byte (30_encoding.md R123, R125). -/
def field76 (b : Byte) : BitVec 2 := b.extractLsb' 6 2

/-- The `reg` field of a ModR/M byte, and the `index` field of a SIB byte (30_encoding.md R123, R125). -/
def field53 (b : Byte) : BitVec 3 := b.extractLsb' 3 3

/-- The `rm` field of a ModR/M byte, the `base` field of a SIB byte, and the register code of the `+r` opcodes
(30_encoding.md R121, R123, R125). -/
def field20 (b : Byte) : BitVec 3 := b.extractLsb' 0 3

/-- A ModR/M or SIB byte from its three fields (30_encoding.md R123, R125). -/
def fields (f76 : BitVec 2) (f53 f20 : BitVec 3) : Byte := f76 ++ f53 ++ f20

/-- The default segment of an addressing form (30_encoding.md R124 to R126): SS for the forms based on ESP, EBP or BP. -/
def EffAddr.defaultSeg : EffAddr → SegReg
  | .a16 (some .bpSi) _ => .ss
  | .a16 (some .bpDi) _ => .ss
  | .a16 (some .bp) _ => .ss
  | .a16 _ _ => .ds
  | .a32 (some .esp) _ _ => .ss
  | .a32 (some .ebp) _ _ => .ss
  | .a32 _ _ _ => .ds

/-- The other size, which a prefix 66H or 67H selects (30_encoding.md R130). -/
def OpSize.other : OpSize → OpSize
  | .s16 => .s32
  | .s32 => .s16

/-! ## Parsing -/

/-- What reading an instruction's bytes gives: the instruction and the bytes after it, or why there is none. -/
inductive Parse (α : Type) where
  | done (a : α) (rest : List Byte)
  /-- The bytes end before the instruction does. -/
  | truncated
  /-- An encoding that raises `#UD` (30_encoding.md R139). -/
  | undefined
  /-- An opcode of no captured page (30_encoding.md R135, R139). -/
  | outOfScope (twoByte : Bool) (opcode : Nat)
  /-- A prefix F2H or F3H (30_encoding.md R132). -/
  | rep
deriving DecidableEq, Repr

def Parse.bind {α β : Type} (p : Parse α) (f : α → List Byte → Parse β) : Parse β :=
  match p with
  | .done a rest => f a rest
  | .truncated => .truncated
  | .undefined => .undefined
  | .outOfScope t o => .outOfScope t o
  | .rep => .rep

/-- What the prefixes say (30_encoding.md R132): the last segment override counts (log 15). -/
structure Prefixes where
  lock : Bool
  rep : Bool
  seg : Option SegReg
  opSize : Bool
  adSize : Bool
deriving DecidableEq, Repr

def Prefixes.none : Prefixes :=
  { lock := false, rep := false, seg := Option.none, opSize := false, adSize := false }

/-- What one more prefix byte adds; `none` for a byte that is no prefix (30_encoding.md R132). -/
def Prefixes.add (p : Prefixes) (b : Byte) : Option Prefixes :=
  match b.toNat with
  | 0xF0 => some { p with lock := true }
  | 0xF2 => some { p with rep := true }
  | 0xF3 => some { p with rep := true }
  | 0x26 => some { p with seg := some .es }
  | 0x2E => some { p with seg := some .cs }
  | 0x36 => some { p with seg := some .ss }
  | 0x3E => some { p with seg := some .ds }
  | 0x64 => some { p with seg := some .fs }
  | 0x65 => some { p with seg := some .gs }
  | 0x66 => some { p with opSize := true }
  | 0x67 => some { p with adSize := true }
  | _ => Option.none

/-- The prefixes before the opcode, and the bytes from the opcode on (30_encoding.md R135 step 1). -/
def scanPrefixes : Prefixes → List Byte → Prefixes × List Byte
  | p, [] => (p, [])
  | p, b :: bs =>
    match p.add b with
    | some p' => scanPrefixes p' bs
    | Option.none => (p, b :: bs)

/-- What the prefixes and the default size mean for the rest of the instruction (30_encoding.md R130, R133). -/
structure Ctx where
  lock : Bool
  seg : Option SegReg
  size : OpSize
  addr : OpSize
deriving DecidableEq, Repr

def Prefixes.ctx (p : Prefixes) (d : OpSize) : Ctx :=
  { lock := p.lock, seg := p.seg, size := if p.opSize then d.other else d, addr := if p.adSize then d.other else d }

/-- Reads `imm8` (30_encoding.md R128). -/
def parse8 : List Byte → Parse Byte
  | b :: bs => .done b bs
  | [] => .truncated

/-- Reads two bytes, low-order byte first (30_encoding.md R127). -/
def parse16 : List Byte → Parse Word
  | b0 :: b1 :: bs => .done (word16 b0 b1) bs
  | _ => .truncated

/-- Reads four bytes, low-order byte first (30_encoding.md R127). -/
def parse32 : List Byte → Parse DWord
  | b0 :: b1 :: b2 :: b3 :: bs => .done (word32 b0 b1 b2 b3) bs
  | _ => .truncated

/-- The displacement of `mod` 0, 1 or 2 with 32-bit addressing (30_encoding.md R124, R127). -/
def parseDisp32 (mod : BitVec 2) (bs : List Byte) : Parse DWord :=
  if mod = 0 then .done 0 bs
  else if mod = 1 then (parse8 bs).bind fun d rest => .done (d.signExtend 32) rest
  else parse32 bs

/-- The displacement of `mod` 0, 1 or 2 with 16-bit addressing (30_encoding.md R126, R127). -/
def parseDisp16 (mod : BitVec 2) (bs : List Byte) : Parse Word :=
  if mod = 0 then .done 0 bs
  else if mod = 1 then (parse8 bs).bind fun d rest => .done (d.signExtend 16) rest
  else parse16 bs

/-- The index of a SIB byte; code 4 means none (30_encoding.md R125). -/
def sibIndex (b : Byte) : Option (Reg × BitVec 2) :=
  if field53 b = 4 then none else some (Reg.ofCode (field53 b), field76 b)

/-- The effective address after a SIB byte (30_encoding.md R125). -/
def parseSib (mod : BitVec 2) (b : Byte) (bs : List Byte) : Parse EffAddr :=
  if field20 b = 5 ∧ mod = 0 then
    (parse32 bs).bind fun d rest => .done (.a32 none (sibIndex b) d) rest
  else
    (parseDisp32 mod bs).bind fun d rest => .done (.a32 (some (Reg.ofCode (field20 b))) (sibIndex b) d) rest

/-- The effective address of a `mod` other than 3, with 32-bit addressing (30_encoding.md R124). -/
def parseEA32 (mod : BitVec 2) (rm : BitVec 3) (bs : List Byte) : Parse EffAddr :=
  if rm = 4 then (parse8 bs).bind fun b rest => parseSib mod b rest
  else if rm = 5 ∧ mod = 0 then (parse32 bs).bind fun d rest => .done (.a32 none none d) rest
  else (parseDisp32 mod bs).bind fun d rest => .done (.a32 (some (Reg.ofCode rm)) none d) rest

/-- The effective address of a `mod` other than 3, with 16-bit addressing (30_encoding.md R126). -/
def parseEA16 (mod : BitVec 2) (rm : BitVec 3) (bs : List Byte) : Parse EffAddr :=
  if rm = 6 ∧ mod = 0 then (parse16 bs).bind fun d rest => .done (.a16 none d) rest
  else (parseDisp16 mod bs).bind fun d rest => .done (.a16 (some (Base16.ofCode rm)) d) rest

def parseEA (addr : OpSize) (mod : BitVec 2) (rm : BitVec 3) (bs : List Byte) : Parse EffAddr :=
  match addr with
  | .s16 => parseEA16 mod rm bs
  | .s32 => parseEA32 mod rm bs

/-- The `r/m` operand before its width is known: a register code or a memory operand (30_encoding.md R123). -/
inductive RawRM where
  | reg (code : BitVec 3)
  | mem (m : MemOp)
deriving DecidableEq, Repr

def RawRM.rm8 : RawRM → RM8
  | .reg c => .reg (Reg8.ofCode c)
  | .mem m => .mem m

def RawRM.rm : RawRM → RM
  | .reg c => .reg (Reg.ofCode c)
  | .mem m => .mem m

/-- A ModR/M byte and what follows it (30_encoding.md R123, R135 step 4): the `reg` field and the operand, whose segment
is the overriding one or the default of its form (R133). -/
def parseModRM (c : Ctx) (bs : List Byte) : Parse (BitVec 3 × RawRM) :=
  (parse8 bs).bind fun b rest =>
    if field76 b = 3 then .done (field53 b, .reg (field20 b)) rest
    else (parseEA c.addr (field76 b) (field20 b) rest).bind fun ea rest' =>
      .done (field53 b, .mem { seg := c.seg.getD ea.defaultSeg, ea := ea }) rest'

/-! ## The shapes of the tables' rows -/

/-- How the bytes after an opcode are read (30_encoding.md R135 steps 4 and 5). -/
abbrev Rule := Ctx → List Byte → Parse Instr

/-- How the bytes after a ModR/M operand are read, given its `reg` field. -/
abbrev ModRule := Ctx → BitVec 3 → RawRM → Rule

def rulePlain (i : Instr) : Rule := fun _ bs => .done i bs

/-- Rows of one opcode that the operand size selects (30_encoding.md R130). -/
def ruleSized (r16 r32 : Rule) : Rule := fun c bs =>
  match c.size with
  | .s16 => r16 c bs
  | .s32 => r32 c bs

def ruleIb (f : Byte → Instr) : Rule := fun _ bs => (parse8 bs).bind fun v rest => .done (f v) rest

def ruleIw (f : Word → Instr) : Rule := fun _ bs => (parse16 bs).bind fun v rest => .done (f v) rest

def ruleId (f : DWord → Instr) : Rule := fun _ bs => (parse32 bs).bind fun v rest => .done (f v) rest

/-- `cd`, a far pointer with a 2-byte offset (30_encoding.md R129). -/
def ruleCd (f : Word → Word → Instr) : Rule := fun _ bs =>
  (parse16 bs).bind fun off rest => (parse16 rest).bind fun sel rest' => .done (f sel off) rest'

/-- `cp`, a far pointer with a 4-byte offset (30_encoding.md R129). -/
def ruleCp (f : Word → DWord → Instr) : Rule := fun _ bs =>
  (parse32 bs).bind fun off rest => (parse16 rest).bind fun sel rest' => .done (f sel off) rest'

def ruleModRM (k : ModRule) : Rule := fun c bs =>
  (parseModRM c bs).bind fun p rest => k c p.1 p.2 c rest

def mod8 (f : Bool → Reg8 → RM8 → Instr) : ModRule := fun c reg rm _ rest =>
  .done (f c.lock (Reg8.ofCode reg) rm.rm8) rest

def modV (f16 f32 : Bool → Reg → RM → Instr) : ModRule := fun c reg rm _ rest =>
  match c.size with
  | .s16 => .done (f16 c.lock (Reg.ofCode reg) rm.rm) rest
  | .s32 => .done (f32 c.lock (Reg.ofCode reg) rm.rm) rest

/-- `r/m8, imm8`, or `r/m` of the operand size with `imm8`. -/
def mod8Ib (f : Bool → RM8 → Byte → Instr) : ModRule := fun c _ rm _ rest =>
  (parse8 rest).bind fun v rest' => .done (f c.lock rm.rm8 v) rest'

def modVIb (f16 f32 : Bool → RM → Byte → Instr) : ModRule := fun c _ rm _ rest =>
  (parse8 rest).bind fun v rest' =>
    match c.size with
    | .s16 => .done (f16 c.lock rm.rm v) rest'
    | .s32 => .done (f32 c.lock rm.rm v) rest'

def modVIv (f16 : Bool → RM → Word → Instr) (f32 : Bool → RM → DWord → Instr) : ModRule := fun c _ rm _ rest =>
  match c.size with
  | .s16 => (parse16 rest).bind fun v rest' => .done (f16 c.lock rm.rm v) rest'
  | .s32 => (parse32 rest).bind fun v rest' => .done (f32 c.lock rm.rm v) rest'

/-- A memory operand; a register where memory is required raises `#UD` (30_encoding.md R139). -/
def modMem (f16 f32 : Bool → Reg → MemOp → Instr) : ModRule := fun c reg rm _ rest =>
  match rm with
  | .reg _ => .undefined
  | .mem m =>
    match c.size with
    | .s16 => .done (f16 c.lock (Reg.ofCode reg) m) rest
    | .s32 => .done (f32 c.lock (Reg.ofCode reg) m) rest

def modUndefined : ModRule := fun _ _ _ _ _ => .undefined

def modOutOfScope (twoByte : Bool) (opcode : Nat) : ModRule := fun _ _ _ _ _ => .outOfScope twoByte opcode

/-- A group of rows that the `/digit` selects (30_encoding.md R121, R135 step 4). -/
def ruleGroup (pick : Nat → ModRule) : Rule :=
  ruleModRM fun c reg rm c' rest => pick reg.toNat c reg rm c' rest

/-- The fourteen rows of ADC, ADD, AND and CMP (41_integer_arith_logic.md R180), as the constructors that stand for
them. -/
structure AluForms where
  alIb : Byte → Instr
  axIw : Word → Instr
  eaxId : DWord → Instr
  rm8Ib : Bool → RM8 → Byte → Instr
  rm16Iw : Bool → RM → Word → Instr
  rm32Id : Bool → RM → DWord → Instr
  rm16Ib : Bool → RM → Byte → Instr
  rm32Ib : Bool → RM → Byte → Instr
  rm8R8 : Bool → RM8 → Reg8 → Instr
  rm16R16 : Bool → RM → Reg → Instr
  rm32R32 : Bool → RM → Reg → Instr
  r8Rm8 : Reg8 → RM8 → Instr
  r16Rm16 : Reg → RM → Instr
  r32Rm32 : Reg → RM → Instr

def adcForms : AluForms :=
  { alIb := .adcAlIb, axIw := .adcAxIw, eaxId := .adcEaxId, rm8Ib := .adcRm8Ib, rm16Iw := .adcRm16Iw,
    rm32Id := .adcRm32Id, rm16Ib := .adcRm16Ib, rm32Ib := .adcRm32Ib, rm8R8 := .adcRm8R8, rm16R16 := .adcRm16R16,
    rm32R32 := .adcRm32R32, r8Rm8 := .adcR8Rm8, r16Rm16 := .adcR16Rm16, r32Rm32 := .adcR32Rm32 }

def addForms : AluForms :=
  { alIb := .addAlIb, axIw := .addAxIw, eaxId := .addEaxId, rm8Ib := .addRm8Ib, rm16Iw := .addRm16Iw,
    rm32Id := .addRm32Id, rm16Ib := .addRm16Ib, rm32Ib := .addRm32Ib, rm8R8 := .addRm8R8, rm16R16 := .addRm16R16,
    rm32R32 := .addRm32R32, r8Rm8 := .addR8Rm8, r16Rm16 := .addR16Rm16, r32Rm32 := .addR32Rm32 }

def andForms : AluForms :=
  { alIb := .andAlIb, axIw := .andAxIw, eaxId := .andEaxId, rm8Ib := .andRm8Ib, rm16Iw := .andRm16Iw,
    rm32Id := .andRm32Id, rm16Ib := .andRm16Ib, rm32Ib := .andRm32Ib, rm8R8 := .andRm8R8, rm16R16 := .andRm16R16,
    rm32R32 := .andRm32R32, r8Rm8 := .andR8Rm8, r16Rm16 := .andR16Rm16, r32Rm32 := .andR32Rm32 }

def cmpForms : AluForms :=
  { alIb := .cmpAlIb, axIw := .cmpAxIw, eaxId := .cmpEaxId, rm8Ib := fun _ rm x => .cmpRm8Ib rm x,
    rm16Iw := fun _ rm x => .cmpRm16Iw rm x, rm32Id := fun _ rm x => .cmpRm32Id rm x,
    rm16Ib := fun _ rm x => .cmpRm16Ib rm x, rm32Ib := fun _ rm x => .cmpRm32Ib rm x,
    rm8R8 := fun _ rm x => .cmpRm8R8 rm x, rm16R16 := fun _ rm x => .cmpRm16R16 rm x,
    rm32R32 := fun _ rm x => .cmpRm32R32 rm x, r8Rm8 := .cmpR8Rm8, r16Rm16 := .cmpR16Rm16,
    r32Rm32 := .cmpR32Rm32 }

/-- The six opcodes `xx` to `xx+5` of an operation (41_integer_arith_logic.md R180, 30_encoding.md R138). -/
def AluForms.rows (f : AluForms) (xx : Byte) : List (Byte × Rule) :=
  [(xx, ruleModRM (mod8 fun l r rm => f.rm8R8 l rm r)),
   (xx + 1, ruleModRM (modV (fun l r rm => f.rm16R16 l rm r) (fun l r rm => f.rm32R32 l rm r))),
   (xx + 2, ruleModRM (mod8 fun _ r rm => f.r8Rm8 r rm)),
   (xx + 3, ruleModRM (modV (fun _ r rm => f.r16Rm16 r rm) (fun _ r rm => f.r32Rm32 r rm))),
   (xx + 4, ruleIb f.alIb),
   (xx + 5, ruleSized (ruleIw f.axIw) (ruleId f.eaxId))]

/-- The operation of a `/digit` in the immediate group 80, 81, 83 (41_integer_arith_logic.md R180). -/
def immGroup (opcode : Nat) (k : AluForms → ModRule) (digit : Nat) : ModRule :=
  match digit with
  | 0 => k addForms
  | 2 => k adcForms
  | 4 => k andForms
  | 7 => k cmpForms
  | _ => modOutOfScope false opcode

def group80 (digit : Nat) : ModRule := immGroup 0x80 (fun f => mod8Ib f.rm8Ib) digit

def group81 (digit : Nat) : ModRule := immGroup 0x81 (fun f => modVIv f.rm16Iw f.rm32Id) digit

def group83 (digit : Nat) : ModRule := immGroup 0x83 (fun f => modVIb f.rm16Ib f.rm32Ib) digit

def groupF6 (digit : Nat) : ModRule :=
  match digit with
  | 6 => mod8 fun _ _ rm => .divRm8 rm
  | _ => modOutOfScope false 0xF6

def groupF7 (digit : Nat) : ModRule :=
  match digit with
  | 6 => modV (fun _ _ rm => .divRm16 rm) (fun _ _ rm => .divRm32 rm)
  | _ => modOutOfScope false 0xF7

/-- `FE /2` to `/7` raise `#UD` (30_encoding.md R139). -/
def groupFE (digit : Nat) : ModRule :=
  match digit with
  | 1 => mod8 fun l _ rm => .decRm8 l rm
  | 0 => modOutOfScope false 0xFE
  | _ => modUndefined

/-- `FF /3` with a register and `FF /7` raise `#UD` (30_encoding.md R139). -/
def groupFF (digit : Nat) : ModRule :=
  match digit with
  | 1 => modV (fun l _ rm => .decRm16 l rm) (fun l _ rm => .decRm32 l rm)
  | 2 => modV (fun _ _ rm => .callRm16 rm) (fun _ _ rm => .callRm32 rm)
  | 3 => modMem (fun _ _ m => .callM16x16 m) (fun _ _ m => .callM16x32 m)
  | 7 => modUndefined
  | _ => modOutOfScope false 0xFF

/-- `0F BA /0` to `/3` raise `#UD` (30_encoding.md R139). -/
def groupBA (digit : Nat) : ModRule :=
  match digit with
  | 4 => modVIb (fun _ rm v => .btRm16Ib rm v) (fun _ rm v => .btRm32Ib rm v)
  | 5 => modVIb .btsRm16Ib .btsRm32Ib
  | 6 => modVIb .btrRm16Ib .btrRm32Ib
  | 7 => modVIb .btcRm16Ib .btcRm32Ib
  | _ => modUndefined

/-- `0F C7` with a `/digit` other than 1 or with a register raises `#UD` (30_encoding.md R139). -/
def groupC7 (digit : Nat) : ModRule :=
  match digit with
  | 1 => modMem (fun l _ m => .cmpxchg8b l m) (fun l _ m => .cmpxchg8b l m)
  | _ => modUndefined

/-- The segment of the first operand of CMPS (46_cmov_string_cmpxchg.md R322). -/
def ruleString (f : OpSize → SegReg → Instr) : Rule := fun c bs => .done (f c.addr (c.seg.getD .ds)) bs

/-- The eight opcodes of a `+r` form (30_encoding.md R121, R122). -/
def plusR (opcode : Byte) (k : Reg → Rule) : List (Byte × Rule) :=
  [(opcode, k .eax), (opcode + 1, k .ecx), (opcode + 2, k .edx), (opcode + 3, k .ebx), (opcode + 4, k .esp),
   (opcode + 5, k .ebp), (opcode + 6, k .esi), (opcode + 7, k .edi)]

/-- The one-byte opcodes (30_encoding.md R136). -/
def oneByteRows : List (Byte × Rule) :=
  addForms.rows 0x00 ++ adcForms.rows 0x10 ++ andForms.rows 0x20 ++ cmpForms.rows 0x38 ++
  [(0x27, rulePlain .daa), (0x2F, rulePlain .das), (0x37, rulePlain .aaa), (0x3F, rulePlain .aas)] ++
  plusR 0x48 (fun r => ruleSized (rulePlain (.decR16 r)) (rulePlain (.decR32 r))) ++
  [(0x62, ruleModRM (modMem (fun _ r m => .boundR16 r m) (fun _ r m => .boundR32 r m))),
   (0x63, ruleModRM (modV (fun _ r rm => .arpl rm r) (fun _ r rm => .arpl rm r))),
   (0x80, ruleGroup group80), (0x81, ruleGroup group81), (0x83, ruleGroup group83),
   (0x98, ruleSized (rulePlain .cbw) (rulePlain .cwde)), (0x99, ruleSized (rulePlain .cwd) (rulePlain .cdq)),
   (0x9A, ruleSized (ruleCd .callPtr16) (ruleCp .callPtr32)),
   (0xA6, ruleString .cmpsb), (0xA7, ruleSized (ruleString .cmpsw) (ruleString .cmpsd)),
   (0xD4, ruleIb .aam), (0xD5, ruleIb .aad), (0xE8, ruleSized (ruleIw .callRel16) (ruleId .callRel32)),
   (0xF5, rulePlain .cmc), (0xF6, ruleGroup groupF6), (0xF7, ruleGroup groupF7), (0xF8, rulePlain .clc),
   (0xFA, rulePlain .cli), (0xFC, rulePlain .cld), (0xFE, ruleGroup groupFE), (0xFF, ruleGroup groupFF)]

/-- A register and an `r/m` operand of the operand size, the register first. -/
def regRM (f16 f32 : Reg → RM → Instr) : Rule := ruleModRM (modV (fun _ r rm => f16 r rm) (fun _ r rm => f32 r rm))

/-- An `r/m` operand of the operand size and a register, the register last. -/
def rmReg (f16 f32 : Bool → RM → Reg → Instr) : Rule :=
  ruleModRM (modV (fun l r rm => f16 l rm r) (fun l r rm => f32 l rm r))

/-- The two-byte opcodes, by their second byte (30_encoding.md R137). -/
def twoByteRows : List (Byte × Rule) :=
  [(0x06, rulePlain .clts),
   (0x40, regRM .cmovO16 .cmovO32),
   (0x41, regRM .cmovNo16 .cmovNo32),
   (0x42, regRM .cmovB16 .cmovB32),
   (0x43, regRM .cmovAe16 .cmovAe32),
   (0x44, regRM .cmovE16 .cmovE32),
   (0x45, regRM .cmovNe16 .cmovNe32),
   (0x46, regRM .cmovBe16 .cmovBe32),
   (0x47, regRM .cmovA16 .cmovA32),
   (0x48, regRM .cmovS16 .cmovS32),
   (0x49, regRM .cmovNs16 .cmovNs32),
   (0x4A, regRM .cmovP16 .cmovP32),
   (0x4B, regRM .cmovNp16 .cmovNp32),
   (0x4C, regRM .cmovL16 .cmovL32),
   (0x4D, regRM .cmovGe16 .cmovGe32),
   (0x4E, regRM .cmovLe16 .cmovLe32),
   (0x4F, regRM .cmovG16 .cmovG32),
   (0xA2, rulePlain .cpuid),
   (0xA3, rmReg (fun _ rm r => .btRm16R16 rm r) (fun _ rm r => .btRm32R32 rm r)),
   (0xAB, rmReg .btsRm16R16 .btsRm32R32), (0xB0, ruleModRM (mod8 fun l r rm => .cmpxchgRm8R8 l rm r)),
   (0xB1, rmReg .cmpxchgRm16R16 .cmpxchgRm32R32), (0xB3, rmReg .btrRm16R16 .btrRm32R32), (0xBA, ruleGroup groupBA),
   (0xBB, rmReg .btcRm16R16 .btcRm32R32), (0xBC, regRM .bsfR16Rm16 .bsfR32Rm32),
   (0xBD, regRM .bsrR16Rm16 .bsrR32Rm32), (0xC7, ruleGroup groupC7)] ++
  plusR 0xC8 (fun r => fun c bs => .done (.bswap c.size r) bs)

/-! ## The decoder -/

/-- A LOCK prefix is legal on the instructions that carry one, with a memory destination; else `#UD` (20_memory.md R107,
30_encoding.md R139). -/
def checkLock (c : Ctx) (i : Instr) (rest : List Byte) : Parse Instr :=
  if c.lock = true ∧ ¬(i.locked = true ∧ i.wellFormed = true) then .undefined else .done i rest

def decodeOpcode (c : Ctx) : List Byte → Parse Instr
  | [] => .truncated
  | b :: bs =>
    if b = 0x0F then
      match bs with
      | [] => .truncated
      | b2 :: bs2 =>
        match twoByteRows.lookup b2 with
        | some r => r c bs2
        | none => .outOfScope true b2.toNat
    else
      match oneByteRows.lookup b with
      | some r => r c bs
      | none => .outOfScope false b.toNat

/-- Decoding of the bytes from an instruction's first on (30_encoding.md R135), where `d` is the default operand and
address size (R130). -/
def decode (d : OpSize) (bs : List Byte) : Parse Instr :=
  let p := scanPrefixes Prefixes.none bs
  if p.1.rep then .rep
  else (decodeOpcode (p.1.ctx d) p.2).bind (checkLock (p.1.ctx d))

/-- The instruction read from a row's bits, as `spec/opcode_table.json` numbers them (log 9): the default sizes are 32,
and 15 bytes is the longest instruction (30_encoding.md R120). -/
def decodeTableWord (nbits w : Nat) : Option Instr :=
  match decode .s32 (leBytes (nbits / 8) w ++ List.replicate (15 - nbits / 8) 0) with
  | .done i _ => some i
  | _ => none

/-! ## The encoder -/

def SegReg.prefixByte : SegReg → Byte
  | .es => 0x26
  | .cs => 0x2E
  | .ss => 0x36
  | .ds => 0x3E
  | .fs => 0x64
  | .gs => 0x65

/-- The address size of an effective address. -/
def EffAddr.size : EffAddr → OpSize
  | .a16 _ _ => .s16
  | .a32 _ _ _ => .s32

/-- The ModR/M byte of a memory operand and the bytes after it: `mod` 2 with a full displacement, or the form without a
base (30_encoding.md R124 to R126). -/
def EffAddr.bytes (reg : BitVec 3) : EffAddr → List Byte
  | .a16 (some b) d => fields 2 reg b.code :: le16 d
  | .a16 none d => fields 0 reg 6 :: le16 d
  | .a32 none none d => fields 0 reg 5 :: le32 d
  | .a32 none (some (i, sc)) d => fields 0 reg 4 :: fields sc i.code 5 :: le32 d
  | .a32 (some b) (some (i, sc)) d => fields 2 reg 4 :: fields sc i.code b.code :: le32 d
  | .a32 (some .esp) none d => fields 2 reg 4 :: fields 0 4 4 :: le32 d
  | .a32 (some b) none d => fields 2 reg b.code :: le32 d

def RM8.bytes (reg : BitVec 3) : RM8 → List Byte
  | .reg r => [fields 3 reg r.code]
  | .mem m => m.ea.bytes reg

def RM.bytes (reg : BitVec 3) : RM → List Byte
  | .reg r => [fields 3 reg r.code]
  | .mem m => m.ea.bytes reg

/-- What an encoding is made of: the prefixes it needs, and the bytes from the opcode on. -/
structure Parts where
  lock : Bool
  seg : Option SegReg
  size : Option OpSize
  addr : Option OpSize
  body : List Byte
deriving DecidableEq, Repr

/-- The segment override a memory operand needs (30_encoding.md R133). -/
def MemOp.override (m : MemOp) : Option SegReg := if m.seg = m.ea.defaultSeg then none else some m.seg

def MemOp.parts (m : MemOp) (lock : Bool) (size : Option OpSize) (body : List Byte) : Parts :=
  { lock := lock, seg := m.override, size := size, addr := some m.ea.size, body := body }

/-- An instruction without a memory operand. -/
def regParts (lock : Bool) (size : Option OpSize) (body : List Byte) : Parts :=
  { lock := lock, seg := none, size := size, addr := none, body := body }

def RM8.parts (rm : RM8) (lock : Bool) (size : Option OpSize) (body : List Byte) : Parts :=
  match rm with
  | .reg _ => regParts lock size body
  | .mem m => m.parts lock size body

def RM.parts (rm : RM) (lock : Bool) (size : Option OpSize) (body : List Byte) : Parts :=
  match rm with
  | .reg _ => regParts lock size body
  | .mem m => m.parts lock size body

def stringParts (size : Option OpSize) (addr : OpSize) (seg : SegReg) (opcode : Byte) : Parts :=
  { lock := false, seg := if seg = .ds then none else some seg, size := size, addr := some addr, body := [opcode] }

/-- The parts of every instruction's encoding (30_encoding.md R136, R137). -/
def Instr.parts : Instr → Parts
  | .aaa => regParts false none [0x37]
  | .aad imm => regParts false none [0xD5, imm]
  | .aam imm => regParts false none [0xD4, imm]
  | .aas => regParts false none [0x3F]
  | .adcAlIb imm => regParts false none [0x14, imm]
  | .adcAxIw imm => regParts false (some .s16) (0x15 :: le16 imm)
  | .adcEaxId imm => regParts false (some .s32) (0x15 :: le32 imm)
  | .adcRm8Ib lock rm imm => rm.parts lock none ([0x80] ++ rm.bytes 2 ++ [imm])
  | .adcRm16Iw lock rm imm => rm.parts lock (some .s16) ([0x81] ++ rm.bytes 2 ++ le16 imm)
  | .adcRm32Id lock rm imm => rm.parts lock (some .s32) ([0x81] ++ rm.bytes 2 ++ le32 imm)
  | .adcRm16Ib lock rm imm => rm.parts lock (some .s16) ([0x83] ++ rm.bytes 2 ++ [imm])
  | .adcRm32Ib lock rm imm => rm.parts lock (some .s32) ([0x83] ++ rm.bytes 2 ++ [imm])
  | .adcRm8R8 lock rm r => rm.parts lock none ([0x10] ++ rm.bytes r.code)
  | .adcRm16R16 lock rm r => rm.parts lock (some .s16) ([0x11] ++ rm.bytes r.code)
  | .adcRm32R32 lock rm r => rm.parts lock (some .s32) ([0x11] ++ rm.bytes r.code)
  | .adcR8Rm8 r rm => rm.parts false none ([0x12] ++ rm.bytes r.code)
  | .adcR16Rm16 r rm => rm.parts false (some .s16) ([0x13] ++ rm.bytes r.code)
  | .adcR32Rm32 r rm => rm.parts false (some .s32) ([0x13] ++ rm.bytes r.code)
  | .addAlIb imm => regParts false none [0x04, imm]
  | .addAxIw imm => regParts false (some .s16) (0x05 :: le16 imm)
  | .addEaxId imm => regParts false (some .s32) (0x05 :: le32 imm)
  | .addRm8Ib lock rm imm => rm.parts lock none ([0x80] ++ rm.bytes 0 ++ [imm])
  | .addRm16Iw lock rm imm => rm.parts lock (some .s16) ([0x81] ++ rm.bytes 0 ++ le16 imm)
  | .addRm32Id lock rm imm => rm.parts lock (some .s32) ([0x81] ++ rm.bytes 0 ++ le32 imm)
  | .addRm16Ib lock rm imm => rm.parts lock (some .s16) ([0x83] ++ rm.bytes 0 ++ [imm])
  | .addRm32Ib lock rm imm => rm.parts lock (some .s32) ([0x83] ++ rm.bytes 0 ++ [imm])
  | .addRm8R8 lock rm r => rm.parts lock none ([0x00] ++ rm.bytes r.code)
  | .addRm16R16 lock rm r => rm.parts lock (some .s16) ([0x01] ++ rm.bytes r.code)
  | .addRm32R32 lock rm r => rm.parts lock (some .s32) ([0x01] ++ rm.bytes r.code)
  | .addR8Rm8 r rm => rm.parts false none ([0x02] ++ rm.bytes r.code)
  | .addR16Rm16 r rm => rm.parts false (some .s16) ([0x03] ++ rm.bytes r.code)
  | .addR32Rm32 r rm => rm.parts false (some .s32) ([0x03] ++ rm.bytes r.code)
  | .andAlIb imm => regParts false none [0x24, imm]
  | .andAxIw imm => regParts false (some .s16) (0x25 :: le16 imm)
  | .andEaxId imm => regParts false (some .s32) (0x25 :: le32 imm)
  | .andRm8Ib lock rm imm => rm.parts lock none ([0x80] ++ rm.bytes 4 ++ [imm])
  | .andRm16Iw lock rm imm => rm.parts lock (some .s16) ([0x81] ++ rm.bytes 4 ++ le16 imm)
  | .andRm32Id lock rm imm => rm.parts lock (some .s32) ([0x81] ++ rm.bytes 4 ++ le32 imm)
  | .andRm16Ib lock rm imm => rm.parts lock (some .s16) ([0x83] ++ rm.bytes 4 ++ [imm])
  | .andRm32Ib lock rm imm => rm.parts lock (some .s32) ([0x83] ++ rm.bytes 4 ++ [imm])
  | .andRm8R8 lock rm r => rm.parts lock none ([0x20] ++ rm.bytes r.code)
  | .andRm16R16 lock rm r => rm.parts lock (some .s16) ([0x21] ++ rm.bytes r.code)
  | .andRm32R32 lock rm r => rm.parts lock (some .s32) ([0x21] ++ rm.bytes r.code)
  | .andR8Rm8 r rm => rm.parts false none ([0x22] ++ rm.bytes r.code)
  | .andR16Rm16 r rm => rm.parts false (some .s16) ([0x23] ++ rm.bytes r.code)
  | .andR32Rm32 r rm => rm.parts false (some .s32) ([0x23] ++ rm.bytes r.code)
  | .arpl rm r => rm.parts false none ([0x63] ++ rm.bytes r.code)
  | .boundR16 r m => m.parts false (some .s16) ([0x62] ++ m.ea.bytes r.code)
  | .boundR32 r m => m.parts false (some .s32) ([0x62] ++ m.ea.bytes r.code)
  | .bsfR16Rm16 r rm => rm.parts false (some .s16) ([0x0F, 0xBC] ++ rm.bytes r.code)
  | .bsfR32Rm32 r rm => rm.parts false (some .s32) ([0x0F, 0xBC] ++ rm.bytes r.code)
  | .bsrR16Rm16 r rm => rm.parts false (some .s16) ([0x0F, 0xBD] ++ rm.bytes r.code)
  | .bsrR32Rm32 r rm => rm.parts false (some .s32) ([0x0F, 0xBD] ++ rm.bytes r.code)
  | .bswap size r => regParts false (some size) [0x0F, 0xC8 + r.code.setWidth 8]
  | .btRm16R16 rm r => rm.parts false (some .s16) ([0x0F, 0xA3] ++ rm.bytes r.code)
  | .btRm32R32 rm r => rm.parts false (some .s32) ([0x0F, 0xA3] ++ rm.bytes r.code)
  | .btRm16Ib rm imm => rm.parts false (some .s16) ([0x0F, 0xBA] ++ rm.bytes 4 ++ [imm])
  | .btRm32Ib rm imm => rm.parts false (some .s32) ([0x0F, 0xBA] ++ rm.bytes 4 ++ [imm])
  | .btcRm16R16 lock rm r => rm.parts lock (some .s16) ([0x0F, 0xBB] ++ rm.bytes r.code)
  | .btcRm32R32 lock rm r => rm.parts lock (some .s32) ([0x0F, 0xBB] ++ rm.bytes r.code)
  | .btcRm16Ib lock rm imm => rm.parts lock (some .s16) ([0x0F, 0xBA] ++ rm.bytes 7 ++ [imm])
  | .btcRm32Ib lock rm imm => rm.parts lock (some .s32) ([0x0F, 0xBA] ++ rm.bytes 7 ++ [imm])
  | .btrRm16R16 lock rm r => rm.parts lock (some .s16) ([0x0F, 0xB3] ++ rm.bytes r.code)
  | .btrRm32R32 lock rm r => rm.parts lock (some .s32) ([0x0F, 0xB3] ++ rm.bytes r.code)
  | .btrRm16Ib lock rm imm => rm.parts lock (some .s16) ([0x0F, 0xBA] ++ rm.bytes 6 ++ [imm])
  | .btrRm32Ib lock rm imm => rm.parts lock (some .s32) ([0x0F, 0xBA] ++ rm.bytes 6 ++ [imm])
  | .btsRm16R16 lock rm r => rm.parts lock (some .s16) ([0x0F, 0xAB] ++ rm.bytes r.code)
  | .btsRm32R32 lock rm r => rm.parts lock (some .s32) ([0x0F, 0xAB] ++ rm.bytes r.code)
  | .btsRm16Ib lock rm imm => rm.parts lock (some .s16) ([0x0F, 0xBA] ++ rm.bytes 5 ++ [imm])
  | .btsRm32Ib lock rm imm => rm.parts lock (some .s32) ([0x0F, 0xBA] ++ rm.bytes 5 ++ [imm])
  | .callRel16 rel => regParts false (some .s16) (0xE8 :: le16 rel)
  | .callRel32 rel => regParts false (some .s32) (0xE8 :: le32 rel)
  | .callRm16 rm => rm.parts false (some .s16) ([0xFF] ++ rm.bytes 2)
  | .callRm32 rm => rm.parts false (some .s32) ([0xFF] ++ rm.bytes 2)
  | .callPtr16 sel off => regParts false (some .s16) (0x9A :: (le16 off ++ le16 sel))
  | .callPtr32 sel off => regParts false (some .s32) (0x9A :: (le32 off ++ le16 sel))
  | .callM16x16 m => m.parts false (some .s16) ([0xFF] ++ m.ea.bytes 3)
  | .callM16x32 m => m.parts false (some .s32) ([0xFF] ++ m.ea.bytes 3)
  | .cbw => regParts false (some .s16) [0x98]
  | .cwde => regParts false (some .s32) [0x98]
  | .clc => regParts false none [0xF8]
  | .cld => regParts false none [0xFC]
  | .cli => regParts false none [0xFA]
  | .clts => regParts false none [0x0F, 0x06]
  | .cmc => regParts false none [0xF5]
  | .cmovO16 r rm => rm.parts false (some .s16) ([0x0F, 0x40] ++ rm.bytes r.code)
  | .cmovO32 r rm => rm.parts false (some .s32) ([0x0F, 0x40] ++ rm.bytes r.code)
  | .cmovNo16 r rm => rm.parts false (some .s16) ([0x0F, 0x41] ++ rm.bytes r.code)
  | .cmovNo32 r rm => rm.parts false (some .s32) ([0x0F, 0x41] ++ rm.bytes r.code)
  | .cmovB16 r rm => rm.parts false (some .s16) ([0x0F, 0x42] ++ rm.bytes r.code)
  | .cmovB32 r rm => rm.parts false (some .s32) ([0x0F, 0x42] ++ rm.bytes r.code)
  | .cmovAe16 r rm => rm.parts false (some .s16) ([0x0F, 0x43] ++ rm.bytes r.code)
  | .cmovAe32 r rm => rm.parts false (some .s32) ([0x0F, 0x43] ++ rm.bytes r.code)
  | .cmovE16 r rm => rm.parts false (some .s16) ([0x0F, 0x44] ++ rm.bytes r.code)
  | .cmovE32 r rm => rm.parts false (some .s32) ([0x0F, 0x44] ++ rm.bytes r.code)
  | .cmovNe16 r rm => rm.parts false (some .s16) ([0x0F, 0x45] ++ rm.bytes r.code)
  | .cmovNe32 r rm => rm.parts false (some .s32) ([0x0F, 0x45] ++ rm.bytes r.code)
  | .cmovBe16 r rm => rm.parts false (some .s16) ([0x0F, 0x46] ++ rm.bytes r.code)
  | .cmovBe32 r rm => rm.parts false (some .s32) ([0x0F, 0x46] ++ rm.bytes r.code)
  | .cmovA16 r rm => rm.parts false (some .s16) ([0x0F, 0x47] ++ rm.bytes r.code)
  | .cmovA32 r rm => rm.parts false (some .s32) ([0x0F, 0x47] ++ rm.bytes r.code)
  | .cmovS16 r rm => rm.parts false (some .s16) ([0x0F, 0x48] ++ rm.bytes r.code)
  | .cmovS32 r rm => rm.parts false (some .s32) ([0x0F, 0x48] ++ rm.bytes r.code)
  | .cmovNs16 r rm => rm.parts false (some .s16) ([0x0F, 0x49] ++ rm.bytes r.code)
  | .cmovNs32 r rm => rm.parts false (some .s32) ([0x0F, 0x49] ++ rm.bytes r.code)
  | .cmovP16 r rm => rm.parts false (some .s16) ([0x0F, 0x4A] ++ rm.bytes r.code)
  | .cmovP32 r rm => rm.parts false (some .s32) ([0x0F, 0x4A] ++ rm.bytes r.code)
  | .cmovNp16 r rm => rm.parts false (some .s16) ([0x0F, 0x4B] ++ rm.bytes r.code)
  | .cmovNp32 r rm => rm.parts false (some .s32) ([0x0F, 0x4B] ++ rm.bytes r.code)
  | .cmovL16 r rm => rm.parts false (some .s16) ([0x0F, 0x4C] ++ rm.bytes r.code)
  | .cmovL32 r rm => rm.parts false (some .s32) ([0x0F, 0x4C] ++ rm.bytes r.code)
  | .cmovGe16 r rm => rm.parts false (some .s16) ([0x0F, 0x4D] ++ rm.bytes r.code)
  | .cmovGe32 r rm => rm.parts false (some .s32) ([0x0F, 0x4D] ++ rm.bytes r.code)
  | .cmovLe16 r rm => rm.parts false (some .s16) ([0x0F, 0x4E] ++ rm.bytes r.code)
  | .cmovLe32 r rm => rm.parts false (some .s32) ([0x0F, 0x4E] ++ rm.bytes r.code)
  | .cmovG16 r rm => rm.parts false (some .s16) ([0x0F, 0x4F] ++ rm.bytes r.code)
  | .cmovG32 r rm => rm.parts false (some .s32) ([0x0F, 0x4F] ++ rm.bytes r.code)
  | .cmpAlIb imm => regParts false none [0x3C, imm]
  | .cmpAxIw imm => regParts false (some .s16) (0x3D :: le16 imm)
  | .cmpEaxId imm => regParts false (some .s32) (0x3D :: le32 imm)
  | .cmpRm8Ib rm imm => rm.parts false none ([0x80] ++ rm.bytes 7 ++ [imm])
  | .cmpRm16Iw rm imm => rm.parts false (some .s16) ([0x81] ++ rm.bytes 7 ++ le16 imm)
  | .cmpRm32Id rm imm => rm.parts false (some .s32) ([0x81] ++ rm.bytes 7 ++ le32 imm)
  | .cmpRm16Ib rm imm => rm.parts false (some .s16) ([0x83] ++ rm.bytes 7 ++ [imm])
  | .cmpRm32Ib rm imm => rm.parts false (some .s32) ([0x83] ++ rm.bytes 7 ++ [imm])
  | .cmpRm8R8 rm r => rm.parts false none ([0x38] ++ rm.bytes r.code)
  | .cmpRm16R16 rm r => rm.parts false (some .s16) ([0x39] ++ rm.bytes r.code)
  | .cmpRm32R32 rm r => rm.parts false (some .s32) ([0x39] ++ rm.bytes r.code)
  | .cmpR8Rm8 r rm => rm.parts false none ([0x3A] ++ rm.bytes r.code)
  | .cmpR16Rm16 r rm => rm.parts false (some .s16) ([0x3B] ++ rm.bytes r.code)
  | .cmpR32Rm32 r rm => rm.parts false (some .s32) ([0x3B] ++ rm.bytes r.code)
  | .cmpsb addr seg => stringParts none addr seg 0xA6
  | .cmpsw addr seg => stringParts (some .s16) addr seg 0xA7
  | .cmpsd addr seg => stringParts (some .s32) addr seg 0xA7
  | .cmpxchgRm8R8 lock rm r => rm.parts lock none ([0x0F, 0xB0] ++ rm.bytes r.code)
  | .cmpxchgRm16R16 lock rm r => rm.parts lock (some .s16) ([0x0F, 0xB1] ++ rm.bytes r.code)
  | .cmpxchgRm32R32 lock rm r => rm.parts lock (some .s32) ([0x0F, 0xB1] ++ rm.bytes r.code)
  | .cmpxchg8b lock m => m.parts lock none ([0x0F, 0xC7] ++ m.ea.bytes 1)
  | .cpuid => regParts false none [0x0F, 0xA2]
  | .cwd => regParts false (some .s16) [0x99]
  | .cdq => regParts false (some .s32) [0x99]
  | .daa => regParts false none [0x27]
  | .das => regParts false none [0x2F]
  | .decRm8 lock rm => rm.parts lock none ([0xFE] ++ rm.bytes 1)
  | .decRm16 lock rm => rm.parts lock (some .s16) ([0xFF] ++ rm.bytes 1)
  | .decRm32 lock rm => rm.parts lock (some .s32) ([0xFF] ++ rm.bytes 1)
  | .decR16 r => regParts false (some .s16) [0x48 + r.code.setWidth 8]
  | .decR32 r => regParts false (some .s32) [0x48 + r.code.setWidth 8]
  | .divRm8 rm => rm.parts false none ([0xF6] ++ rm.bytes 6)
  | .divRm16 rm => rm.parts false (some .s16) ([0xF7] ++ rm.bytes 6)
  | .divRm32 rm => rm.parts false (some .s32) ([0xF7] ++ rm.bytes 6)

/-- The prefix byte 66H or 67H where a size is not the default (30_encoding.md R130). -/
def sizePrefix (p : Byte) (d : OpSize) (size : Option OpSize) : List Byte :=
  match size with
  | none => []
  | some s => if s = d then [] else [p]

/-- The prefixes, in one of the orders 30_encoding.md R132 allows. -/
def Parts.prefixes (p : Parts) (d : OpSize) : List Byte :=
  (if p.lock then [0xF0] else []) ++
  (match p.seg with | none => [] | some s => [s.prefixByte]) ++
  sizePrefix 0x66 d p.size ++ sizePrefix 0x67 d p.addr

/-- One encoding of an instruction, for a code segment whose default size is `d`. -/
def encode (d : OpSize) (i : Instr) : List Byte := i.parts.prefixes d ++ i.parts.body

end Sys2Proof
end

