-- ==== Sys2Proof/Machine/Fetch.lean ====
section
/-! DEFINITION. Fetching and decoding the instruction at the instruction pointer, and what the step does around its
meaning (20_memory.md R92, R112; 30_encoding.md R120, R135; 70_reset_and_hazards.md R404). -/

namespace Sys2Proof.Machine

/-- The longest instruction, in bytes (30_encoding.md R120). -/
def maxLength : Nat := 15

/-- The default operand and address size, by D of the record of CS in every mode: in real-address and virtual-8086 mode 16
unless that record says otherwise (30_encoding.md R130 with its decision D9; log 25). -/
def State.codeSize (s : State) : OpSize := if s.segs.cs.big then .s32 else .s16

/-- The linear address of the instruction's byte `k` (20_memory.md R81, R92). -/
def State.codeLinear (s : State) (k : Nat) : DWord := s.segs.cs.base + (s.pc + BitVec.ofNat 32 k)

/-- One byte of the instruction: the limit of CS, translation, and no byte stored since the last CPUID (20_memory.md R92,
R100, R112; log 13, log 34). -/
def State.fetchByte (s : State) (k : Nat) : Result Byte := do
  stopIf (decide (s.segs.cs.limit.toNat < (s.pc + BitVec.ofNat 32 k).toNat)) s.gp0
  let a ← s.translate .fetch (s.codeLinear k)
  stopIf (s.stored.contains a) (.refused .modifiedCode)
  return Memory.read s.mem a

/-- What fetching gave: the bytes before the first that could not be fetched, and why that one could not. -/
structure Window where
  bytes : List Byte
  stop : Option Stop
deriving DecidableEq, Repr

/-- Up to `n` bytes from byte `k` of the instruction on (log 16). -/
def State.fetchWindow (s : State) : Nat → Nat → Window
  | 0, _ => { bytes := [], stop := none }
  | n + 1, k =>
    match s.fetchByte k with
    | .error e => { bytes := [], stop := some e }
    | .ok b => { s.fetchWindow n (k + 1) with bytes := b :: (s.fetchWindow n (k + 1)).bytes }

/-- What a decoded instruction, or the lack of one, means for the step: the instruction and the offset after it
(30_encoding.md R120, R135, R139; 10_state.md R37). -/
def State.interpret (s : State) (w : Window) : Result (Instr × DWord) :=
  match decode s.codeSize w.bytes with
  | .done i rest => .ok (i, s.pc + BitVec.ofNat 32 (w.bytes.length - rest.length))
  | .truncated =>
    match w.stop with
    | some e => .error e
    | none => .error s.gp0
  | .undefined => .error (s.raise .ud)
  | .outOfScope t o => .error (.refused (.opcodeOutOfScope t o))
  | .rep => .error (.refused .repPrefix)

/-- The instruction at the instruction pointer, and the offset after it. -/
def State.fetchInstr (s : State) : Result (Instr × DWord) := s.interpret (s.fetchWindow maxLength 0)

/-- Whether the run ends here (70_reset_and_hazards.md R404). -/
def State.atEnd (s : State) : Bool := s.cfg.endEip == some s.pc

/-- Itanium High FP Reg Fault at the first instruction after entry (60_exceptions.md R364). -/
def State.highFpFault (s : State) : Bool := s.itaniumSE && s.firstAfterEntry && s.psr.dfh

/-- `first_after_entry` is false after the first instruction completes, also where it completes with a trap
(10_state.md R64). -/
def State.entered (s : State) : State := { s with firstAfterEntry := false }

/-- What the step adds to an instruction's outcome. -/
def complete (o : Host.Outcome State Fault Refusal) : Host.Outcome State Fault Refusal :=
  match o with
  | .next t => .next t.entered
  | .fault (.debugTrap t) => .fault (.debugTrap t.entered)
  | .fault (.systemFlagTrap t) => .fault (.systemFlagTrap t.entered)
  | .fault (.exception e c ip a) => .fault (.exception e c ip a)
  | .fault (.intercept k ip) => .fault (.intercept k ip)
  | .fault (.itanium f ip a) => .fault (.itanium f ip a)
  | .fault .runEnded => .fault .runEnded
  | .refused r => .refused r

/-- Stores bytes where the step fetches the instruction's bytes from `k` on, as launch bytes: fetching may read them. -/
def State.placeCode (s : State) : Nat → List Byte → State
  | _, [] => s
  | k, b :: bs =>
    match s.translate .fetch (s.codeLinear k) with
    | .ok a =>
      { s with mem := Memory.write s.mem a b, stored := s.stored.filter fun x => x != a }.placeCode (k + 1) bs
    | .error _ => s.placeCode (k + 1) bs

/-- The instruction's bytes, and zeros up to the longest instruction (log 8). -/
def codeBytes (nbits w : Nat) : List Byte := leBytes (nbits / 8) w ++ List.replicate (maxLength - nbits / 8) 0

end Sys2Proof.Machine
end

