-- ==== Sys2Proof/Machine/Step.lean ====
section
/-! DEFINITION. The step: one instruction, or why there is none (60_exceptions.md R363; 70_reset_and_hazards.md R404). -/

namespace Sys2Proof.Machine

/-- One step: the end of the run, the fault of the first instruction after entry, fetching and decoding, then the
instruction's meaning. -/
def step (s : State) : Host.Outcome State Fault Refusal :=
  if s.atEnd then .fault .runEnded
  else if s.highFpFault then toOutcome (.error (s.raiseItanium .disabledFpRegister))
  else
    match s.fetchInstr with
    | .error e => toOutcome (.error e)
    | .ok (i, next) => complete (exec i { s with nextPc := next })

/-- The state with one instruction placed where the step fetches the next one (log 8). -/
def State.withFetchWord (s : State) (nbits w : Nat) : State := s.placeCode 0 (codeBytes nbits w)

end Sys2Proof.Machine
end

