-- ==== Sys2Proof/Laws/PerInstr.lean ====
section
/-! SUPPORT. Families of statements made for each instruction. -/

namespace Sys2Proof.Laws

theorem prefixes_length (p : Parts) (d : OpSize) : (p.prefixes d).length ≤ 4 := by
  obtain ⟨lock, seg, size, addr, body⟩ := p
  have h (b : Byte) (o : Option OpSize) : (sizePrefix b d o).length ≤ 1 := by
    unfold sizePrefix
    split
    · simp
    · split <;> simp
  have h1 := h 0x66 size
  have h2 := h 0x67 addr
  cases lock <;> cases seg <;> simp only [Parts.prefixes, List.length_append, if_true, Bool.false_eq_true, if_false,
    List.length_cons, List.length_nil] <;> omega

theorem effAddr_bytes_length (reg : BitVec 3) (e : EffAddr) :
    1 ≤ (e.bytes reg).length ∧ (e.bytes reg).length ≤ 6 := by
  unfold EffAddr.bytes
  split <;> simp [le16, le32]

theorem rm8_bytes_length (reg : BitVec 3) (rm : RM8) : 1 ≤ (rm.bytes reg).length ∧ (rm.bytes reg).length ≤ 6 := by
  cases rm with
  | reg r => simp [RM8.bytes]
  | mem m => exact effAddr_bytes_length reg m.ea

theorem rm_bytes_length (reg : BitVec 3) (rm : RM) : 1 ≤ (rm.bytes reg).length ∧ (rm.bytes reg).length ≤ 6 := by
  cases rm with
  | reg r => simp [RM.bytes]
  | mem m => exact effAddr_bytes_length reg m.ea

theorem rm8_parts_body (rm : RM8) (l : Bool) (z : Option OpSize) (b : List Byte) : (rm.parts l z b).body = b := by
  cases rm <;> rfl

theorem rm_parts_body (rm : RM) (l : Bool) (z : Option OpSize) (b : List Byte) : (rm.parts l z b).body = b := by
  cases rm <;> rfl

/-- The bytes from the opcode on are between 1 and 11. -/
theorem body_length (i : Instr) : 1 ≤ i.parts.body.length ∧ i.parts.body.length ≤ 11 := by
  cases i <;>
    simp only [Instr.parts, rm8_parts_body, rm_parts_body, regParts, MemOp.parts, stringParts, List.length_append,
      List.length_cons, List.length_nil, le16, le32] <;>
    first
    | omega
    | grind [rm8_bytes_length, rm_bytes_length, effAddr_bytes_length]

/-- An encoding has between 1 and 15 bytes. -/
theorem encode_length (d : OpSize) (i : Instr) : 1 ≤ (encode d i).length ∧ (encode d i).length ≤ 15 := by
  have h1 := prefixes_length i.parts d
  have h2 := body_length i
  simp only [encode, List.length_append]
  omega

/-- An instruction's encoding has between 1 and 15 bytes, whatever the default size (30_encoding.md R120). -/
def EncodedLength.Statement (i : Instr) : Prop :=
  ∀ d : OpSize, 1 ≤ (encode d i).length ∧ (encode d i).length ≤ 15

theorem EncodedLength.aaa : EncodedLength.Statement .aaa := fun d => encode_length d _

theorem EncodedLength.aad (imm : Byte) : EncodedLength.Statement (.aad imm) := fun d => encode_length d _

theorem EncodedLength.aam (imm : Byte) : EncodedLength.Statement (.aam imm) := fun d => encode_length d _

theorem EncodedLength.aas : EncodedLength.Statement .aas := fun d => encode_length d _

theorem EncodedLength.adcAlIb (imm : Byte) :
    EncodedLength.Statement (.adcAlIb imm) := fun d => encode_length d _

theorem EncodedLength.adcAxIw (imm : Word) :
    EncodedLength.Statement (.adcAxIw imm) := fun d => encode_length d _

theorem EncodedLength.adcEaxId (imm : DWord) :
    EncodedLength.Statement (.adcEaxId imm) := fun d => encode_length d _

theorem EncodedLength.adcRm8Ib (lock : Bool) (rm : RM8) (imm : Byte) :
    EncodedLength.Statement (.adcRm8Ib lock rm imm) := fun d => encode_length d _

theorem EncodedLength.adcRm16Iw (lock : Bool) (rm : RM) (imm : Word) :
    EncodedLength.Statement (.adcRm16Iw lock rm imm) := fun d => encode_length d _

theorem EncodedLength.adcRm32Id (lock : Bool) (rm : RM) (imm : DWord) :
    EncodedLength.Statement (.adcRm32Id lock rm imm) := fun d => encode_length d _

theorem EncodedLength.adcRm16Ib (lock : Bool) (rm : RM) (imm : Byte) :
    EncodedLength.Statement (.adcRm16Ib lock rm imm) := fun d => encode_length d _

theorem EncodedLength.adcRm32Ib (lock : Bool) (rm : RM) (imm : Byte) :
    EncodedLength.Statement (.adcRm32Ib lock rm imm) := fun d => encode_length d _

theorem EncodedLength.adcRm8R8 (lock : Bool) (rm : RM8) (r : Reg8) :
    EncodedLength.Statement (.adcRm8R8 lock rm r) := fun d => encode_length d _

theorem EncodedLength.adcRm16R16 (lock : Bool) (rm : RM) (r : Reg) :
    EncodedLength.Statement (.adcRm16R16 lock rm r) := fun d => encode_length d _

theorem EncodedLength.adcRm32R32 (lock : Bool) (rm : RM) (r : Reg) :
    EncodedLength.Statement (.adcRm32R32 lock rm r) := fun d => encode_length d _

theorem EncodedLength.adcR8Rm8 (r : Reg8) (rm : RM8) :
    EncodedLength.Statement (.adcR8Rm8 r rm) := fun d => encode_length d _

theorem EncodedLength.adcR16Rm16 (r : Reg) (rm : RM) :
    EncodedLength.Statement (.adcR16Rm16 r rm) := fun d => encode_length d _

theorem EncodedLength.adcR32Rm32 (r : Reg) (rm : RM) :
    EncodedLength.Statement (.adcR32Rm32 r rm) := fun d => encode_length d _

theorem EncodedLength.addAlIb (imm : Byte) :
    EncodedLength.Statement (.addAlIb imm) := fun d => encode_length d _

theorem EncodedLength.addAxIw (imm : Word) :
    EncodedLength.Statement (.addAxIw imm) := fun d => encode_length d _

theorem EncodedLength.addEaxId (imm : DWord) :
    EncodedLength.Statement (.addEaxId imm) := fun d => encode_length d _

theorem EncodedLength.addRm8Ib (lock : Bool) (rm : RM8) (imm : Byte) :
    EncodedLength.Statement (.addRm8Ib lock rm imm) := fun d => encode_length d _

theorem EncodedLength.addRm16Iw (lock : Bool) (rm : RM) (imm : Word) :
    EncodedLength.Statement (.addRm16Iw lock rm imm) := fun d => encode_length d _

theorem EncodedLength.addRm32Id (lock : Bool) (rm : RM) (imm : DWord) :
    EncodedLength.Statement (.addRm32Id lock rm imm) := fun d => encode_length d _

theorem EncodedLength.addRm16Ib (lock : Bool) (rm : RM) (imm : Byte) :
    EncodedLength.Statement (.addRm16Ib lock rm imm) := fun d => encode_length d _

theorem EncodedLength.addRm32Ib (lock : Bool) (rm : RM) (imm : Byte) :
    EncodedLength.Statement (.addRm32Ib lock rm imm) := fun d => encode_length d _

theorem EncodedLength.addRm8R8 (lock : Bool) (rm : RM8) (r : Reg8) :
    EncodedLength.Statement (.addRm8R8 lock rm r) := fun d => encode_length d _

theorem EncodedLength.addRm16R16 (lock : Bool) (rm : RM) (r : Reg) :
    EncodedLength.Statement (.addRm16R16 lock rm r) := fun d => encode_length d _

theorem EncodedLength.addRm32R32 (lock : Bool) (rm : RM) (r : Reg) :
    EncodedLength.Statement (.addRm32R32 lock rm r) := fun d => encode_length d _

theorem EncodedLength.addR8Rm8 (r : Reg8) (rm : RM8) :
    EncodedLength.Statement (.addR8Rm8 r rm) := fun d => encode_length d _

theorem EncodedLength.addR16Rm16 (r : Reg) (rm : RM) :
    EncodedLength.Statement (.addR16Rm16 r rm) := fun d => encode_length d _

theorem EncodedLength.addR32Rm32 (r : Reg) (rm : RM) :
    EncodedLength.Statement (.addR32Rm32 r rm) := fun d => encode_length d _

theorem EncodedLength.andAlIb (imm : Byte) :
    EncodedLength.Statement (.andAlIb imm) := fun d => encode_length d _

theorem EncodedLength.andAxIw (imm : Word) :
    EncodedLength.Statement (.andAxIw imm) := fun d => encode_length d _

theorem EncodedLength.andEaxId (imm : DWord) :
    EncodedLength.Statement (.andEaxId imm) := fun d => encode_length d _

theorem EncodedLength.andRm8Ib (lock : Bool) (rm : RM8) (imm : Byte) :
    EncodedLength.Statement (.andRm8Ib lock rm imm) := fun d => encode_length d _

theorem EncodedLength.andRm16Iw (lock : Bool) (rm : RM) (imm : Word) :
    EncodedLength.Statement (.andRm16Iw lock rm imm) := fun d => encode_length d _

theorem EncodedLength.andRm32Id (lock : Bool) (rm : RM) (imm : DWord) :
    EncodedLength.Statement (.andRm32Id lock rm imm) := fun d => encode_length d _

theorem EncodedLength.andRm16Ib (lock : Bool) (rm : RM) (imm : Byte) :
    EncodedLength.Statement (.andRm16Ib lock rm imm) := fun d => encode_length d _

theorem EncodedLength.andRm32Ib (lock : Bool) (rm : RM) (imm : Byte) :
    EncodedLength.Statement (.andRm32Ib lock rm imm) := fun d => encode_length d _

theorem EncodedLength.andRm8R8 (lock : Bool) (rm : RM8) (r : Reg8) :
    EncodedLength.Statement (.andRm8R8 lock rm r) := fun d => encode_length d _

theorem EncodedLength.andRm16R16 (lock : Bool) (rm : RM) (r : Reg) :
    EncodedLength.Statement (.andRm16R16 lock rm r) := fun d => encode_length d _

theorem EncodedLength.andRm32R32 (lock : Bool) (rm : RM) (r : Reg) :
    EncodedLength.Statement (.andRm32R32 lock rm r) := fun d => encode_length d _

theorem EncodedLength.andR8Rm8 (r : Reg8) (rm : RM8) :
    EncodedLength.Statement (.andR8Rm8 r rm) := fun d => encode_length d _

theorem EncodedLength.andR16Rm16 (r : Reg) (rm : RM) :
    EncodedLength.Statement (.andR16Rm16 r rm) := fun d => encode_length d _

theorem EncodedLength.andR32Rm32 (r : Reg) (rm : RM) :
    EncodedLength.Statement (.andR32Rm32 r rm) := fun d => encode_length d _

theorem EncodedLength.arpl (rm : RM) (r : Reg) :
    EncodedLength.Statement (.arpl rm r) := fun d => encode_length d _

theorem EncodedLength.boundR16 (r : Reg) (m : MemOp) :
    EncodedLength.Statement (.boundR16 r m) := fun d => encode_length d _

theorem EncodedLength.boundR32 (r : Reg) (m : MemOp) :
    EncodedLength.Statement (.boundR32 r m) := fun d => encode_length d _

theorem EncodedLength.bsfR16Rm16 (r : Reg) (rm : RM) :
    EncodedLength.Statement (.bsfR16Rm16 r rm) := fun d => encode_length d _

theorem EncodedLength.bsfR32Rm32 (r : Reg) (rm : RM) :
    EncodedLength.Statement (.bsfR32Rm32 r rm) := fun d => encode_length d _

theorem EncodedLength.bsrR16Rm16 (r : Reg) (rm : RM) :
    EncodedLength.Statement (.bsrR16Rm16 r rm) := fun d => encode_length d _

theorem EncodedLength.bsrR32Rm32 (r : Reg) (rm : RM) :
    EncodedLength.Statement (.bsrR32Rm32 r rm) := fun d => encode_length d _

theorem EncodedLength.bswap (size : OpSize) (r : Reg) :
    EncodedLength.Statement (.bswap size r) := fun d => encode_length d _

theorem EncodedLength.btRm16R16 (rm : RM) (r : Reg) :
    EncodedLength.Statement (.btRm16R16 rm r) := fun d => encode_length d _

theorem EncodedLength.btRm32R32 (rm : RM) (r : Reg) :
    EncodedLength.Statement (.btRm32R32 rm r) := fun d => encode_length d _

theorem EncodedLength.btRm16Ib (rm : RM) (imm : Byte) :
    EncodedLength.Statement (.btRm16Ib rm imm) := fun d => encode_length d _

theorem EncodedLength.btRm32Ib (rm : RM) (imm : Byte) :
    EncodedLength.Statement (.btRm32Ib rm imm) := fun d => encode_length d _

theorem EncodedLength.btcRm16R16 (lock : Bool) (rm : RM) (r : Reg) :
    EncodedLength.Statement (.btcRm16R16 lock rm r) := fun d => encode_length d _

theorem EncodedLength.btcRm32R32 (lock : Bool) (rm : RM) (r : Reg) :
    EncodedLength.Statement (.btcRm32R32 lock rm r) := fun d => encode_length d _

theorem EncodedLength.btcRm16Ib (lock : Bool) (rm : RM) (imm : Byte) :
    EncodedLength.Statement (.btcRm16Ib lock rm imm) := fun d => encode_length d _

theorem EncodedLength.btcRm32Ib (lock : Bool) (rm : RM) (imm : Byte) :
    EncodedLength.Statement (.btcRm32Ib lock rm imm) := fun d => encode_length d _

theorem EncodedLength.btrRm16R16 (lock : Bool) (rm : RM) (r : Reg) :
    EncodedLength.Statement (.btrRm16R16 lock rm r) := fun d => encode_length d _

theorem EncodedLength.btrRm32R32 (lock : Bool) (rm : RM) (r : Reg) :
    EncodedLength.Statement (.btrRm32R32 lock rm r) := fun d => encode_length d _

theorem EncodedLength.btrRm16Ib (lock : Bool) (rm : RM) (imm : Byte) :
    EncodedLength.Statement (.btrRm16Ib lock rm imm) := fun d => encode_length d _

theorem EncodedLength.btrRm32Ib (lock : Bool) (rm : RM) (imm : Byte) :
    EncodedLength.Statement (.btrRm32Ib lock rm imm) := fun d => encode_length d _

theorem EncodedLength.btsRm16R16 (lock : Bool) (rm : RM) (r : Reg) :
    EncodedLength.Statement (.btsRm16R16 lock rm r) := fun d => encode_length d _

theorem EncodedLength.btsRm32R32 (lock : Bool) (rm : RM) (r : Reg) :
    EncodedLength.Statement (.btsRm32R32 lock rm r) := fun d => encode_length d _

theorem EncodedLength.btsRm16Ib (lock : Bool) (rm : RM) (imm : Byte) :
    EncodedLength.Statement (.btsRm16Ib lock rm imm) := fun d => encode_length d _

theorem EncodedLength.btsRm32Ib (lock : Bool) (rm : RM) (imm : Byte) :
    EncodedLength.Statement (.btsRm32Ib lock rm imm) := fun d => encode_length d _

theorem EncodedLength.callRel16 (rel : Word) :
    EncodedLength.Statement (.callRel16 rel) := fun d => encode_length d _

theorem EncodedLength.callRel32 (rel : DWord) :
    EncodedLength.Statement (.callRel32 rel) := fun d => encode_length d _

theorem EncodedLength.callRm16 (rm : RM) :
    EncodedLength.Statement (.callRm16 rm) := fun d => encode_length d _

theorem EncodedLength.callRm32 (rm : RM) :
    EncodedLength.Statement (.callRm32 rm) := fun d => encode_length d _

theorem EncodedLength.callPtr16 (sel : Word) (off : Word) :
    EncodedLength.Statement (.callPtr16 sel off) := fun d => encode_length d _

theorem EncodedLength.callPtr32 (sel : Word) (off : DWord) :
    EncodedLength.Statement (.callPtr32 sel off) := fun d => encode_length d _

theorem EncodedLength.callM16x16 (m : MemOp) :
    EncodedLength.Statement (.callM16x16 m) := fun d => encode_length d _

theorem EncodedLength.callM16x32 (m : MemOp) :
    EncodedLength.Statement (.callM16x32 m) := fun d => encode_length d _

theorem EncodedLength.cbw : EncodedLength.Statement .cbw := fun d => encode_length d _

theorem EncodedLength.cwde : EncodedLength.Statement .cwde := fun d => encode_length d _

theorem EncodedLength.clc : EncodedLength.Statement .clc := fun d => encode_length d _

theorem EncodedLength.cld : EncodedLength.Statement .cld := fun d => encode_length d _

theorem EncodedLength.cli : EncodedLength.Statement .cli := fun d => encode_length d _

theorem EncodedLength.clts : EncodedLength.Statement .clts := fun d => encode_length d _

theorem EncodedLength.cmc : EncodedLength.Statement .cmc := fun d => encode_length d _

theorem EncodedLength.cmovO16 (r : Reg) (rm : RM) :
    EncodedLength.Statement (.cmovO16 r rm) := fun d => encode_length d _

theorem EncodedLength.cmovO32 (r : Reg) (rm : RM) :
    EncodedLength.Statement (.cmovO32 r rm) := fun d => encode_length d _

theorem EncodedLength.cmovNo16 (r : Reg) (rm : RM) :
    EncodedLength.Statement (.cmovNo16 r rm) := fun d => encode_length d _

theorem EncodedLength.cmovNo32 (r : Reg) (rm : RM) :
    EncodedLength.Statement (.cmovNo32 r rm) := fun d => encode_length d _

theorem EncodedLength.cmovB16 (r : Reg) (rm : RM) :
    EncodedLength.Statement (.cmovB16 r rm) := fun d => encode_length d _

theorem EncodedLength.cmovB32 (r : Reg) (rm : RM) :
    EncodedLength.Statement (.cmovB32 r rm) := fun d => encode_length d _

theorem EncodedLength.cmovAe16 (r : Reg) (rm : RM) :
    EncodedLength.Statement (.cmovAe16 r rm) := fun d => encode_length d _

theorem EncodedLength.cmovAe32 (r : Reg) (rm : RM) :
    EncodedLength.Statement (.cmovAe32 r rm) := fun d => encode_length d _

theorem EncodedLength.cmovE16 (r : Reg) (rm : RM) :
    EncodedLength.Statement (.cmovE16 r rm) := fun d => encode_length d _

theorem EncodedLength.cmovE32 (r : Reg) (rm : RM) :
    EncodedLength.Statement (.cmovE32 r rm) := fun d => encode_length d _

theorem EncodedLength.cmovNe16 (r : Reg) (rm : RM) :
    EncodedLength.Statement (.cmovNe16 r rm) := fun d => encode_length d _

theorem EncodedLength.cmovNe32 (r : Reg) (rm : RM) :
    EncodedLength.Statement (.cmovNe32 r rm) := fun d => encode_length d _

theorem EncodedLength.cmovBe16 (r : Reg) (rm : RM) :
    EncodedLength.Statement (.cmovBe16 r rm) := fun d => encode_length d _

theorem EncodedLength.cmovBe32 (r : Reg) (rm : RM) :
    EncodedLength.Statement (.cmovBe32 r rm) := fun d => encode_length d _

theorem EncodedLength.cmovA16 (r : Reg) (rm : RM) :
    EncodedLength.Statement (.cmovA16 r rm) := fun d => encode_length d _

theorem EncodedLength.cmovA32 (r : Reg) (rm : RM) :
    EncodedLength.Statement (.cmovA32 r rm) := fun d => encode_length d _

theorem EncodedLength.cmovS16 (r : Reg) (rm : RM) :
    EncodedLength.Statement (.cmovS16 r rm) := fun d => encode_length d _

theorem EncodedLength.cmovS32 (r : Reg) (rm : RM) :
    EncodedLength.Statement (.cmovS32 r rm) := fun d => encode_length d _

theorem EncodedLength.cmovNs16 (r : Reg) (rm : RM) :
    EncodedLength.Statement (.cmovNs16 r rm) := fun d => encode_length d _

theorem EncodedLength.cmovNs32 (r : Reg) (rm : RM) :
    EncodedLength.Statement (.cmovNs32 r rm) := fun d => encode_length d _

theorem EncodedLength.cmovP16 (r : Reg) (rm : RM) :
    EncodedLength.Statement (.cmovP16 r rm) := fun d => encode_length d _

theorem EncodedLength.cmovP32 (r : Reg) (rm : RM) :
    EncodedLength.Statement (.cmovP32 r rm) := fun d => encode_length d _

theorem EncodedLength.cmovNp16 (r : Reg) (rm : RM) :
    EncodedLength.Statement (.cmovNp16 r rm) := fun d => encode_length d _

theorem EncodedLength.cmovNp32 (r : Reg) (rm : RM) :
    EncodedLength.Statement (.cmovNp32 r rm) := fun d => encode_length d _

theorem EncodedLength.cmovL16 (r : Reg) (rm : RM) :
    EncodedLength.Statement (.cmovL16 r rm) := fun d => encode_length d _

theorem EncodedLength.cmovL32 (r : Reg) (rm : RM) :
    EncodedLength.Statement (.cmovL32 r rm) := fun d => encode_length d _

theorem EncodedLength.cmovGe16 (r : Reg) (rm : RM) :
    EncodedLength.Statement (.cmovGe16 r rm) := fun d => encode_length d _

theorem EncodedLength.cmovGe32 (r : Reg) (rm : RM) :
    EncodedLength.Statement (.cmovGe32 r rm) := fun d => encode_length d _

theorem EncodedLength.cmovLe16 (r : Reg) (rm : RM) :
    EncodedLength.Statement (.cmovLe16 r rm) := fun d => encode_length d _

theorem EncodedLength.cmovLe32 (r : Reg) (rm : RM) :
    EncodedLength.Statement (.cmovLe32 r rm) := fun d => encode_length d _

theorem EncodedLength.cmovG16 (r : Reg) (rm : RM) :
    EncodedLength.Statement (.cmovG16 r rm) := fun d => encode_length d _

theorem EncodedLength.cmovG32 (r : Reg) (rm : RM) :
    EncodedLength.Statement (.cmovG32 r rm) := fun d => encode_length d _

theorem EncodedLength.cmpAlIb (imm : Byte) :
    EncodedLength.Statement (.cmpAlIb imm) := fun d => encode_length d _

theorem EncodedLength.cmpAxIw (imm : Word) :
    EncodedLength.Statement (.cmpAxIw imm) := fun d => encode_length d _

theorem EncodedLength.cmpEaxId (imm : DWord) :
    EncodedLength.Statement (.cmpEaxId imm) := fun d => encode_length d _

theorem EncodedLength.cmpRm8Ib (rm : RM8) (imm : Byte) :
    EncodedLength.Statement (.cmpRm8Ib rm imm) := fun d => encode_length d _

theorem EncodedLength.cmpRm16Iw (rm : RM) (imm : Word) :
    EncodedLength.Statement (.cmpRm16Iw rm imm) := fun d => encode_length d _

theorem EncodedLength.cmpRm32Id (rm : RM) (imm : DWord) :
    EncodedLength.Statement (.cmpRm32Id rm imm) := fun d => encode_length d _

theorem EncodedLength.cmpRm16Ib (rm : RM) (imm : Byte) :
    EncodedLength.Statement (.cmpRm16Ib rm imm) := fun d => encode_length d _

theorem EncodedLength.cmpRm32Ib (rm : RM) (imm : Byte) :
    EncodedLength.Statement (.cmpRm32Ib rm imm) := fun d => encode_length d _

theorem EncodedLength.cmpRm8R8 (rm : RM8) (r : Reg8) :
    EncodedLength.Statement (.cmpRm8R8 rm r) := fun d => encode_length d _

theorem EncodedLength.cmpRm16R16 (rm : RM) (r : Reg) :
    EncodedLength.Statement (.cmpRm16R16 rm r) := fun d => encode_length d _

theorem EncodedLength.cmpRm32R32 (rm : RM) (r : Reg) :
    EncodedLength.Statement (.cmpRm32R32 rm r) := fun d => encode_length d _

theorem EncodedLength.cmpR8Rm8 (r : Reg8) (rm : RM8) :
    EncodedLength.Statement (.cmpR8Rm8 r rm) := fun d => encode_length d _

theorem EncodedLength.cmpR16Rm16 (r : Reg) (rm : RM) :
    EncodedLength.Statement (.cmpR16Rm16 r rm) := fun d => encode_length d _

theorem EncodedLength.cmpR32Rm32 (r : Reg) (rm : RM) :
    EncodedLength.Statement (.cmpR32Rm32 r rm) := fun d => encode_length d _

theorem EncodedLength.cmpsb (addr : OpSize) (seg : SegReg) :
    EncodedLength.Statement (.cmpsb addr seg) := fun d => encode_length d _

theorem EncodedLength.cmpsw (addr : OpSize) (seg : SegReg) :
    EncodedLength.Statement (.cmpsw addr seg) := fun d => encode_length d _

theorem EncodedLength.cmpsd (addr : OpSize) (seg : SegReg) :
    EncodedLength.Statement (.cmpsd addr seg) := fun d => encode_length d _

theorem EncodedLength.cmpxchgRm8R8 (lock : Bool) (rm : RM8) (r : Reg8) :
    EncodedLength.Statement (.cmpxchgRm8R8 lock rm r) := fun d => encode_length d _

theorem EncodedLength.cmpxchgRm16R16 (lock : Bool) (rm : RM) (r : Reg) :
    EncodedLength.Statement (.cmpxchgRm16R16 lock rm r) := fun d => encode_length d _

theorem EncodedLength.cmpxchgRm32R32 (lock : Bool) (rm : RM) (r : Reg) :
    EncodedLength.Statement (.cmpxchgRm32R32 lock rm r) := fun d => encode_length d _

theorem EncodedLength.cmpxchg8b (lock : Bool) (m : MemOp) :
    EncodedLength.Statement (.cmpxchg8b lock m) := fun d => encode_length d _

theorem EncodedLength.cpuid : EncodedLength.Statement .cpuid := fun d => encode_length d _

theorem EncodedLength.cwd : EncodedLength.Statement .cwd := fun d => encode_length d _

theorem EncodedLength.cdq : EncodedLength.Statement .cdq := fun d => encode_length d _

theorem EncodedLength.daa : EncodedLength.Statement .daa := fun d => encode_length d _

theorem EncodedLength.das : EncodedLength.Statement .das := fun d => encode_length d _

theorem EncodedLength.decRm8 (lock : Bool) (rm : RM8) :
    EncodedLength.Statement (.decRm8 lock rm) := fun d => encode_length d _

theorem EncodedLength.decRm16 (lock : Bool) (rm : RM) :
    EncodedLength.Statement (.decRm16 lock rm) := fun d => encode_length d _

theorem EncodedLength.decRm32 (lock : Bool) (rm : RM) :
    EncodedLength.Statement (.decRm32 lock rm) := fun d => encode_length d _

theorem EncodedLength.decR16 (r : Reg) :
    EncodedLength.Statement (.decR16 r) := fun d => encode_length d _

theorem EncodedLength.decR32 (r : Reg) :
    EncodedLength.Statement (.decR32 r) := fun d => encode_length d _

theorem EncodedLength.divRm8 (rm : RM8) :
    EncodedLength.Statement (.divRm8 rm) := fun d => encode_length d _

theorem EncodedLength.divRm16 (rm : RM) :
    EncodedLength.Statement (.divRm16 rm) := fun d => encode_length d _

theorem EncodedLength.divRm32 (rm : RM) :
    EncodedLength.Statement (.divRm32 rm) := fun d => encode_length d _

end Sys2Proof.Laws
end

