-- ==== Sys2Proof/Safety.lean ====
section
/-! DEFINITION. What counts as a safe run, and what one step may leave as it was. -/

namespace Sys2Proof.Machine

/-- A step that goes on, or that ends the run at `end_eip`: no event and no refusal (70_reset_and_hazards.md R404). -/
def safeOutcome (o : Host.Outcome State Fault Refusal) : Prop :=
  (∃ t, o = .next t) ∨ o = .fault .runEnded

/-- Everything but the general registers, the status flags, the instruction pointer, memory with its record of stores,
and the count of free values is the same. -/
def SameElse (s t : State) : Prop :=
  t = { s with
    regs := t.regs
    status := t.status
    pc := t.pc
    mem := t.mem
    stored := t.stored
    draws := t.draws }

/-- Every byte of memory outside `addrs` reads as before. -/
def MemorySameOutside (addrs : List Nat) (s t : State) : Prop :=
  ∀ a, a ∉ addrs → Memory.read t.mem a = Memory.read s.mem a

end Sys2Proof.Machine
end

