-- ==== Sys2Proof/Certificates/Slice0/Obligations.lean ====
section
/-! DEFINITION. The statements for the provers. First the words they are written in: what an instruction's form is, what a
write to a register or to memory leaves, and the status flags of a result, each spelled out from the rules and not from
the meanings. -/

namespace Sys2Proof.Claims

open Sys2Proof Sys2Proof.Machine

/-! ## What a next state leaves -/

/-- No NaT bit of these registers stops the instruction (60_exceptions.md R362). -/
def Readable (s : State) (rs : List Reg) : Prop := s.itaniumSE = true → ∀ r ∈ rs, s.nat.get r = false

/-- Every general register but `r` is as before. -/
def OthersKept (r : Reg) (s t : State) : Prop := ∀ q, q ≠ r → t.reg32 q = s.reg32 q

/-- Memory and the record of stores are as before. -/
def MemoryKept (s t : State) : Prop := t.mem = s.mem ∧ t.stored = s.stored

/-- The byte at every address holds the value's byte of that number, lowest first; where two of the addresses are one,
the later byte stands (20_memory.md R85). -/
def Holds {w : Nat} (addrs : List Nat) (v : BitVec w) (t : State) : Prop :=
  ∀ k a, addrs[k]? = some a → a ∉ addrs.drop (k + 1) → Memory.read t.mem a = v.extractLsb' (8 * k) 8

/-- A value has been stored at these addresses and nowhere else, and fetching will find them in the record of stores. -/
def StoredAt {w : Nat} (addrs : List Nat) (v : BitVec w) (s t : State) : Prop :=
  Holds addrs v t ∧ MemorySameOutside addrs s t ∧ ∀ a, a ∈ t.stored ↔ a ∈ addrs ∨ a ∈ s.stored

/-- What writing `v` to an operand leaves in the general registers (10_state.md R31, R32). -/
def RegistersWritten {w : Nat} (p : Place w) (v : BitVec w) (s t : State) : Prop :=
  match p, v with
  | .r8 r, v =>
    (t.reg32 r.parent).extractLsb' (if r.high then 8 else 0) 8 = v ∧
    (t.reg32 r.parent).extractLsb' (if r.high then 0 else 8) 8 =
      (s.reg32 r.parent).extractLsb' (if r.high then 0 else 8) 8 ∧
    (t.reg32 r.parent).extractLsb' 16 16 = (s.reg32 r.parent).extractLsb' 16 16 ∧ OthersKept r.parent s t
  | .r16 r, v =>
    (t.reg32 r).extractLsb' 0 16 = v ∧ (t.reg32 r).extractLsb' 16 16 = (s.reg32 r).extractLsb' 16 16 ∧ OthersKept r s t
  | .r32 r, v => t.reg32 r = v ∧ OthersKept r s t
  | .mem _, _ => t.regs = s.regs

/-- What writing `v` to an operand leaves in memory. -/
def MemoryWritten {w : Nat} (p : Place w) (addrs : List Nat) (v : BitVec w) (s t : State) : Prop :=
  match p, v with
  | .r8 _, _ => MemoryKept s t
  | .r16 _, _ => MemoryKept s t
  | .r32 _, _ => MemoryKept s t
  | .mem _, v => StoredAt addrs v s t

/-- Writing `v` to an operand whose bytes are at `addrs`, and nothing else. -/
def Written {w : Nat} (p : Place w) (addrs : List Nat) (v : BitVec w) (s t : State) : Prop :=
  RegistersWritten p v s t ∧ MemoryWritten p addrs v s t

/-- The instruction completed: what no instruction of its kind writes is as before, execution goes on after it, and it
drew `n` free values. -/
def Completed (n : Nat) (s t : State) : Prop := SameElse s t ∧ t.pc = s.nextPc ∧ t.draws = s.draws + n

/-! ## Status flags of a result (10_state.md R45 to R50) -/

/-- PF, ZF and SF (R46, R48, R49). -/
def ResultFlags {w : Nat} (f : StatusFlags) (r : BitVec w) : Prop :=
  (f.pf = true ↔ ((List.range 8).countP fun k => r.getLsbD k) % 2 = 0) ∧ (f.zf = true ↔ r = 0) ∧
  f.sf = r.getLsbD (w - 1)

/-- The six flags after the addition `r = a + b + c` (R45 to R50). -/
def SumFlags {w : Nat} (f : StatusFlags) (a b : BitVec w) (c : Bool) (r : BitVec w) : Prop :=
  (f.cf = true ↔ 2 ^ w ≤ a.toNat + b.toNat + c.toNat) ∧
  (f.af = true ↔ 16 ≤ a.toNat % 16 + b.toNat % 16 + c.toNat) ∧
  (f.ofl = true ↔ a.getLsbD (w - 1) = b.getLsbD (w - 1) ∧ r.getLsbD (w - 1) ≠ a.getLsbD (w - 1)) ∧
  ResultFlags f r

/-- The six flags after the subtraction `r = a - b` (R45 to R50). -/
def DifferenceFlags {w : Nat} (f : StatusFlags) (a b r : BitVec w) : Prop :=
  (f.cf = true ↔ a.toNat < b.toNat) ∧
  (f.af = true ↔ a.toNat % 16 < b.toNat % 16) ∧
  (f.ofl = true ↔ a.getLsbD (w - 1) ≠ b.getLsbD (w - 1) ∧ r.getLsbD (w - 1) ≠ a.getLsbD (w - 1)) ∧
  ResultFlags f r

/-! ## Forms -/

/-- The fourteen forms of ADC, ADD, AND and CMP (41_integer_arith_logic.md R180): whether LOCK stands before them, the
destination, the source and the instruction. -/
inductive AluForm (f : AluForms) : Bool → {w : Nat} → Place w → Operand w → Instr → Prop where
  | alIb (v : Byte) : AluForm f false (.r8 .al) (.imm v) (f.alIb v)
  | axIw (v : Word) : AluForm f false (.r16 .eax) (.imm v) (f.axIw v)
  | eaxId (v : DWord) : AluForm f false (.r32 .eax) (.imm v) (f.eaxId v)
  | rm8Ib (l : Bool) (rm : RM8) (v : Byte) : AluForm f l rm.place (.imm v) (f.rm8Ib l rm v)
  | rm16Iw (l : Bool) (rm : RM) (v : Word) : AluForm f l rm.place16 (.imm v) (f.rm16Iw l rm v)
  | rm32Id (l : Bool) (rm : RM) (v : DWord) : AluForm f l rm.place32 (.imm v) (f.rm32Id l rm v)
  | rm16Ib (l : Bool) (rm : RM) (v : Byte) : AluForm f l rm.place16 (.imm (v.signExtend 16)) (f.rm16Ib l rm v)
  | rm32Ib (l : Bool) (rm : RM) (v : Byte) : AluForm f l rm.place32 (.imm (v.signExtend 32)) (f.rm32Ib l rm v)
  | rm8R8 (l : Bool) (rm : RM8) (r : Reg8) : AluForm f l rm.place (.place (.r8 r)) (f.rm8R8 l rm r)
  | rm16R16 (l : Bool) (rm : RM) (r : Reg) : AluForm f l rm.place16 (.place (.r16 r)) (f.rm16R16 l rm r)
  | rm32R32 (l : Bool) (rm : RM) (r : Reg) : AluForm f l rm.place32 (.place (.r32 r)) (f.rm32R32 l rm r)
  | r8Rm8 (r : Reg8) (rm : RM8) : AluForm f false (.r8 r) (.place rm.place) (f.r8Rm8 r rm)
  | r16Rm16 (r : Reg) (rm : RM) : AluForm f false (.r16 r) (.place rm.place16) (f.r16Rm16 r rm)
  | r32Rm32 (r : Reg) (rm : RM) : AluForm f false (.r32 r) (.place rm.place32) (f.r32Rm32 r rm)

/-- The five forms of DEC (41_integer_arith_logic.md R194). -/
inductive DecForm : Bool → {w : Nat} → Place w → Instr → Prop where
  | rm8 (l : Bool) (rm : RM8) : DecForm l rm.place (.decRm8 l rm)
  | rm16 (l : Bool) (rm : RM) : DecForm l rm.place16 (.decRm16 l rm)
  | rm32 (l : Bool) (rm : RM) : DecForm l rm.place32 (.decRm32 l rm)
  | r16 (r : Reg) : DecForm false (.r16 r) (.decR16 r)
  | r32 (r : Reg) : DecForm false (.r32 r) (.decR32 r)

/-- The three forms of DIV (41_integer_arith_logic.md R195): the register of the dividend's low half, the one of its
high half, the dividend, and the state with the quotient and the remainder in place. -/
inductive DivForm (s : State) : List Reg → Nat → {w : Nat} → Place w → (BitVec w → BitVec w → State → Prop) → Instr →
    Prop where
  | rm8 (rm : RM8) :
    DivForm s [.eax] (s.reg16 .eax).toNat rm.place
      (fun q r t => t.reg32 .eax = (s.reg32 .eax).extractLsb' 16 16 ++ r ++ q ∧ OthersKept .eax s t) (.divRm8 rm)
  | rm16 (rm : RM) :
    DivForm s [.edx, .eax] ((s.reg16 .edx).toNat * 2 ^ 16 + (s.reg16 .eax).toNat) rm.place16
      (fun q r t => t.reg32 .eax = (s.reg32 .eax).extractLsb' 16 16 ++ q ∧
        t.reg32 .edx = (s.reg32 .edx).extractLsb' 16 16 ++ r ∧ ∀ x, x ≠ .eax → x ≠ .edx → t.reg32 x = s.reg32 x)
      (.divRm16 rm)
  | rm32 (rm : RM) :
    DivForm s [.edx, .eax] ((s.reg32 .edx).toNat * 2 ^ 32 + (s.reg32 .eax).toNat) rm.place32
      (fun q r t => t.reg32 .eax = q ∧ t.reg32 .edx = r ∧ ∀ x, x ≠ .eax → x ≠ .edx → t.reg32 x = s.reg32 x)
      (.divRm32 rm)

/-- The two forms of BOUND (42_protection_bounds.md R223): the index and the memory operand. -/
inductive BoundForm : {w : Nat} → Place w → MemOp → Instr → Prop where
  | r16 (r : Reg) (m : MemOp) : BoundForm (.r16 r) m (.boundR16 r m)
  | r32 (r : Reg) (m : MemOp) : BoundForm (.r32 r) m (.boundR32 r m)

/-- The forms of BSF (`fwd`) and BSR (43_bit_scan_test.md R230, R231): destination and source. -/
inductive ScanForm : Bool → {w : Nat} → Place w → Place w → Instr → Prop where
  | bsf16 (r : Reg) (rm : RM) : ScanForm true (.r16 r) rm.place16 (.bsfR16Rm16 r rm)
  | bsf32 (r : Reg) (rm : RM) : ScanForm true (.r32 r) rm.place32 (.bsfR32Rm32 r rm)
  | bsr16 (r : Reg) (rm : RM) : ScanForm false (.r16 r) rm.place16 (.bsrR16Rm16 r rm)
  | bsr32 (r : Reg) (rm : RM) : ScanForm false (.r32 r) rm.place32 (.bsrR32Rm32 r rm)

/-- The sixteen forms of BT, BTC, BTR and BTS (43_bit_scan_test.md R237, R239 to R242): the operation, LOCK, the bit
base and the bit offset, an immediate one already reduced modulo the operand size. -/
inductive BitForm : BitOp → Bool → {w : Nat} → Place w → Operand w → Instr → Prop where
  | bt16 (rm : RM) (r : Reg) : BitForm .bt false rm.place16 (.place (.r16 r)) (.btRm16R16 rm r)
  | bt32 (rm : RM) (r : Reg) : BitForm .bt false rm.place32 (.place (.r32 r)) (.btRm32R32 rm r)
  | bt16i (rm : RM) (v : Byte) : BitForm .bt false rm.place16 (.imm (BitVec.ofNat 16 (v.toNat % 16))) (.btRm16Ib rm v)
  | bt32i (rm : RM) (v : Byte) : BitForm .bt false rm.place32 (.imm (BitVec.ofNat 32 (v.toNat % 32))) (.btRm32Ib rm v)
  | btc16 (l : Bool) (rm : RM) (r : Reg) : BitForm .btc l rm.place16 (.place (.r16 r)) (.btcRm16R16 l rm r)
  | btc32 (l : Bool) (rm : RM) (r : Reg) : BitForm .btc l rm.place32 (.place (.r32 r)) (.btcRm32R32 l rm r)
  | btc16i (l : Bool) (rm : RM) (v : Byte) :
    BitForm .btc l rm.place16 (.imm (BitVec.ofNat 16 (v.toNat % 16))) (.btcRm16Ib l rm v)
  | btc32i (l : Bool) (rm : RM) (v : Byte) :
    BitForm .btc l rm.place32 (.imm (BitVec.ofNat 32 (v.toNat % 32))) (.btcRm32Ib l rm v)
  | btr16 (l : Bool) (rm : RM) (r : Reg) : BitForm .btr l rm.place16 (.place (.r16 r)) (.btrRm16R16 l rm r)
  | btr32 (l : Bool) (rm : RM) (r : Reg) : BitForm .btr l rm.place32 (.place (.r32 r)) (.btrRm32R32 l rm r)
  | btr16i (l : Bool) (rm : RM) (v : Byte) :
    BitForm .btr l rm.place16 (.imm (BitVec.ofNat 16 (v.toNat % 16))) (.btrRm16Ib l rm v)
  | btr32i (l : Bool) (rm : RM) (v : Byte) :
    BitForm .btr l rm.place32 (.imm (BitVec.ofNat 32 (v.toNat % 32))) (.btrRm32Ib l rm v)
  | bts16 (l : Bool) (rm : RM) (r : Reg) : BitForm .bts l rm.place16 (.place (.r16 r)) (.btsRm16R16 l rm r)
  | bts32 (l : Bool) (rm : RM) (r : Reg) : BitForm .bts l rm.place32 (.place (.r32 r)) (.btsRm32R32 l rm r)
  | bts16i (l : Bool) (rm : RM) (v : Byte) :
    BitForm .bts l rm.place16 (.imm (BitVec.ofNat 16 (v.toNat % 16))) (.btsRm16Ib l rm v)
  | bts32i (l : Bool) (rm : RM) (v : Byte) :
    BitForm .bts l rm.place32 (.imm (BitVec.ofNat 32 (v.toNat % 32))) (.btsRm32Ib l rm v)

/-- What an operation leaves in the addressed bit (43_bit_scan_test.md R239 to R242). -/
def bitAfter (op : BitOp) (b : Bool) : Bool :=
  match op with
  | .bt => b
  | .btc => !b
  | .btr => false
  | .bts => true

/-- `v` with bit `k` replaced by `b`, bit by bit. -/
def BitReplaced {w : Nat} (k : Nat) (b : Bool) (v v' : BitVec w) : Prop :=
  ∀ j, j < w → v'.getLsbD j = if j = k then b else v.getLsbD j

/-- The forms of CMPXCHG (46_cmov_string_cmpxchg.md R318): LOCK, accumulator, destination, source. -/
inductive CmpxchgForm : Bool → {w : Nat} → Place w → Place w → Place w → Instr → Prop where
  | rm8 (l : Bool) (rm : RM8) (r : Reg8) : CmpxchgForm l (.r8 .al) rm.place (.r8 r) (.cmpxchgRm8R8 l rm r)
  | rm16 (l : Bool) (rm : RM) (r : Reg) : CmpxchgForm l (.r16 .eax) rm.place16 (.r16 r) (.cmpxchgRm16R16 l rm r)
  | rm32 (l : Bool) (rm : RM) (r : Reg) : CmpxchgForm l (.r32 .eax) rm.place32 (.r32 r) (.cmpxchgRm32R32 l rm r)

/-- Where a bit test of memory makes its access: the item of the width that the execution accesses in which the bit
`offset` is (43_bit_scan_test.md R237, R238). -/
def bitAccess {w : Nat} (s : State) (m : MemOp) (offset : BitVec w) : DWord :=
  let unit : Nat := if s.bitWide then w else 8
  m.ea.addrSize.wrap (s.offset m.ea + BitVec.ofInt 32 ((unit / 8 : Nat) * (offset.toInt / (unit : Int))))

/-- The forms with a LOCK prefix and a memory destination (20_memory.md R107): the instruction's name in the lock
predicate, the registers it reads, the linear address and the bytes of its access, and the instruction. -/
inductive LockForm (s : State) : LockOp → List Reg → DWord → Nat → Instr → Prop where
  | alu (f : AluForms) (op : LockOp) (h : (f, op) ∈ [(adcForms, LockOp.adc), (addForms, .add), (andForms, .and)])
    {w : Nat} (m : MemOp) (src : Operand w) (i : Instr) (form : AluForm f true (.mem m : Place w) src i) :
    LockForm s op (m.ea.regs ++ src.regs) ((s.seg m.seg).base + m.ea.addrSize.wrap (s.offset m.ea)) (w / 8) i
  | dec {w : Nat} (m : MemOp) (i : Instr) (form : DecForm true (.mem m : Place w) i) :
    LockForm s .dec m.ea.regs ((s.seg m.seg).base + m.ea.addrSize.wrap (s.offset m.ea)) (w / 8) i
  | bit (op : BitOp) (name : LockOp) (h : (op, name) ∈ [(BitOp.btc, LockOp.btc), (.btr, .btr), (.bts, .bts)])
    {w : Nat} (m : MemOp) (off : Operand w) (i : Instr) (form : BitForm op true (.mem m : Place w) off i) :
    LockForm s name (m.ea.regs ++ off.regs) ((s.seg m.seg).base + bitAccess s m (s.operand off []))
      (if s.bitWide then w / 8 else 1) i
  | cmpxchg {w : Nat} (m : MemOp) (acc src : Place w) (i : Instr) (form : CmpxchgForm true acc (.mem m) src i) :
    LockForm s .cmpxchg (acc.regs ++ m.ea.regs ++ src.regs)
      ((s.seg m.seg).base + m.ea.addrSize.wrap (s.offset m.ea)) (w / 8) i
  | cmpxchg8b (m : MemOp) :
    LockForm s .cmpxchg8b ([.eax, .ebx, .ecx, .edx] ++ m.ea.regs)
      ((s.seg m.seg).base + m.ea.addrSize.wrap (s.offset m.ea)) 8 (.cmpxchg8b true m)

/-- CMPSB, CMPSW and CMPSD (46_cmov_string_cmpxchg.md R323 to R325), by the width of what they compare. -/
inductive CmpsForm : Nat → OpSize → SegReg → Instr → Prop where
  | cmpsb (a : OpSize) (g : SegReg) : CmpsForm 8 a g (.cmpsb a g)
  | cmpsw (a : OpSize) (g : SegReg) : CmpsForm 16 a g (.cmpsw a g)
  | cmpsd (a : OpSize) (g : SegReg) : CmpsForm 32 a g (.cmpsd a g)

/-- The sixteen conditions of CMOVcc with the instructions that test them (46_cmov_string_cmpxchg.md R301). -/
def cmovTable : List ((StatusFlags → Bool) × (Reg → RM → Instr) × (Reg → RM → Instr)) :=
  [(fun f => f.ofl, .cmovO16, .cmovO32),
   (fun f => !f.ofl, .cmovNo16, .cmovNo32),
   (fun f => f.cf, .cmovB16, .cmovB32),
   (fun f => !f.cf, .cmovAe16, .cmovAe32),
   (fun f => f.zf, .cmovE16, .cmovE32),
   (fun f => !f.zf, .cmovNe16, .cmovNe32),
   (fun f => f.cf || f.zf, .cmovBe16, .cmovBe32),
   (fun f => !f.cf && !f.zf, .cmovA16, .cmovA32),
   (fun f => f.sf, .cmovS16, .cmovS32),
   (fun f => !f.sf, .cmovNs16, .cmovNs32),
   (fun f => f.pf, .cmovP16, .cmovP32),
   (fun f => !f.pf, .cmovNp16, .cmovNp32),
   (fun f => f.sf != f.ofl, .cmovL16, .cmovL32),
   (fun f => f.sf == f.ofl, .cmovGe16, .cmovGe32),
   (fun f => f.zf || f.sf != f.ofl, .cmovLe16, .cmovLe32),
   (fun f => !f.zf && f.sf == f.ofl, .cmovG16, .cmovG32)]

/-- The forms of CMOVcc: the condition, the destination and the source. -/
inductive CmovForm : (StatusFlags → Bool) → {w : Nat} → Place w → Place w → Instr → Prop where
  | r16 (row : (StatusFlags → Bool) × (Reg → RM → Instr) × (Reg → RM → Instr)) (h : row ∈ cmovTable) (r : Reg) (rm : RM) :
    CmovForm row.1 (.r16 r) rm.place16 (row.2.1 r rm)
  | r32 (row : (StatusFlags → Bool) × (Reg → RM → Instr) × (Reg → RM → Instr)) (h : row ∈ cmovTable) (r : Reg) (rm : RM) :
    CmovForm row.1 (.r32 r) rm.place32 (row.2.2 r rm)

/-- The instructions that a LOCK prefix may not stand before (20_memory.md R107 and the spec's decision D23): those
outside the lockable set, and the lockable ones with a register destination. -/
inductive NotLockable : Instr → Prop where
  | alone (i : Instr) (h : i ∈ [Instr.aaa, .aas, .daa, .das, .cbw, .cwde, .cwd, .cdq, .clc, .cld, .cli, .clts, .cmc,
      .cpuid]) : NotLockable i
  | aad (imm : Byte) : NotLockable (.aad imm)
  | aam (imm : Byte) : NotLockable (.aam imm)
  | arpl (rm : RM) (r : Reg) : NotLockable (.arpl rm r)
  | bound {w : Nat} (index : Place w) (m : MemOp) (i : Instr) (form : BoundForm index m i) : NotLockable i
  | scan (fwd : Bool) {w : Nat} (dst src : Place w) (i : Instr) (form : ScanForm fwd dst src i) : NotLockable i
  | bswap (size : OpSize) (r : Reg) : NotLockable (.bswap size r)
  | bt (l : Bool) {w : Nat} (base : Place w) (off : Operand w) (i : Instr) (form : BitForm .bt l base off i) :
    NotLockable i
  | callRel16 (rel : Word) : NotLockable (.callRel16 rel)
  | callRel32 (rel : DWord) : NotLockable (.callRel32 rel)
  | callRm16 (rm : RM) : NotLockable (.callRm16 rm)
  | callRm32 (rm : RM) : NotLockable (.callRm32 rm)
  | callPtr16 (sel off : Word) : NotLockable (.callPtr16 sel off)
  | callPtr32 (sel : Word) (off : DWord) : NotLockable (.callPtr32 sel off)
  | callM16x16 (m : MemOp) : NotLockable (.callM16x16 m)
  | callM16x32 (m : MemOp) : NotLockable (.callM16x32 m)
  | cmov (cond : StatusFlags → Bool) {w : Nat} (dst src : Place w) (i : Instr) (form : CmovForm cond dst src i) :
    NotLockable i
  | cmp (l : Bool) {w : Nat} (dst : Place w) (src : Operand w) (i : Instr) (form : AluForm cmpForms l dst src i) :
    NotLockable i
  | cmps (w : Nat) (a : OpSize) (g : SegReg) (i : Instr) (form : CmpsForm w a g i) : NotLockable i
  | divRm8 (rm : RM8) : NotLockable (.divRm8 rm)
  | divRm16 (rm : RM) : NotLockable (.divRm16 rm)
  | divRm32 (rm : RM) : NotLockable (.divRm32 rm)
  | alu (f : AluForms) (h : f ∈ [adcForms, addForms, andForms]) (l : Bool) {w : Nat} (dst : Place w) (src : Operand w)
    (i : Instr) (form : AluForm f l dst src i) (register : ∀ m, dst ≠ .mem m) : NotLockable i
  | bit (op : BitOp) (l : Bool) {w : Nat} (base : Place w) (off : Operand w) (i : Instr)
    (form : BitForm op l base off i) (register : ∀ m, base ≠ .mem m) : NotLockable i
  | cmpxchg (l : Bool) {w : Nat} (acc dst src : Place w) (i : Instr) (form : CmpxchgForm l acc dst src i)
    (register : ∀ m, dst ≠ .mem m) : NotLockable i
  | dec (l : Bool) {w : Nat} (dst : Place w) (i : Instr) (form : DecForm l dst i) (register : ∀ m, dst ≠ .mem m) :
    NotLockable i

/-! ## Operands -/

/-- The registers whose low words a 16-bit address sums (30_encoding.md R126). -/
def addends : Option Base16 → List Reg
  | none => []
  | some .bxSi => [.ebx, .esi]
  | some .bxDi => [.ebx, .edi]
  | some .bpSi => [.ebp, .esi]
  | some .bpDi => [.ebp, .edi]
  | some .si => [.esi]
  | some .di => [.edi]
  | some .bp => [.ebp]
  | some .bx => [.ebx]

/-- Each byte register with the register it is part of and its lowest bit there (10_state.md R32). -/
def byteRegisters : List (Reg8 × Reg × Nat) :=
  [(.al, .eax, 0), (.cl, .ecx, 0), (.dl, .edx, 0), (.bl, .ebx, 0), (.ah, .eax, 8), (.ch, .ecx, 8), (.dh, .edx, 8),
   (.bh, .ebx, 8)]

/-! ## Memory access -/

/-- The first entry of the launch's `Translate` oracle for its linear page (20_memory.md R100; log 4). -/
def FirstEntry (s : State) (e : PageEntry) : Prop :=
  ∃ before after, s.cfg.pages = before ++ e :: after ∧ ∀ x ∈ before, x.page ≠ e.page

/-- What the oracle answers for a linear page and a kind of access (20_memory.md R100), a fault by its Itanium name; that
a page of no entry has the physical page of its own number is the model's choice (log 4). -/
inductive OracleAnswers (s : State) : AccessKind → Nat → PageResult ItaniumFault → Prop where
  | unlisted (kind : AccessKind) (page : Nat) (h : ∀ e ∈ s.cfg.pages, e.page ≠ page) :
    OracleAnswers s kind page (.frame page)
  | fetch (e : PageEntry) (h : FirstEntry s e) :
    OracleAnswers s .fetch e.page (match e.fetch with | .frame p => .frame p | .fault f => .fault (.instrMem f))
  | read (e : PageEntry) (h : FirstEntry s e) :
    OracleAnswers s .read e.page (match e.read with | .frame p => .frame p | .fault f => .fault (.dataMem (.data f)))
  | write (e : PageEntry) (h : FirstEntry s e) :
    OracleAnswers s .write e.page (match e.write with | .frame p => .frame p | .fault f => .fault (.dataMem f))

/-- The launch's memory map covers a physical page (20_memory.md R108). -/
def Covered (s : State) (page : Nat) : Prop := ∀ l, s.cfg.memory.populated = some l → page ∈ l

/-- The fault of translating a byte of a linear page (20_memory.md R100, R108): the oracle's, or, where the physical page
is one that the memory map does not cover, the one that the launch names for the kind of access (log 4). -/
inductive TranslationFaults (s : State) : AccessKind → Nat → ItaniumFault → Prop where
  | oracle (kind : AccessKind) (page : Nat) (f : ItaniumFault) (h : OracleAnswers s kind page (.fault f)) :
    TranslationFaults s kind page f
  | uncovered (kind : AccessKind) (page p : Nat) (h : OracleAnswers s kind page (.frame p)) (empty : ¬Covered s p) :
    TranslationFaults s kind page (match kind with
      | .fetch => .instrMem s.cfg.memory.fetchFault
      | .read => .dataMem (.data s.cfg.memory.readFault)
      | .write => .dataMem s.cfg.memory.writeFault)

/-- The linear page of a byte, with pages of the launch's size (20_memory.md R100; log 4). -/
def pageOf (s : State) (la : DWord) : Nat := la.toNat / 2 ^ s.cfg.pageShift

/-- The segment may be named: DS, ES, FS and GS are not null in protected mode (20_memory.md R91). -/
def NotNull (s : State) (r : SegReg) : Prop :=
  s.protectedMode = true → r ∈ [SegReg.ds, .es, .fs, .gs] →
    if s.itaniumSE = true then (s.seg r).present = true else (s.seg r).selector.extractLsb' 2 14 ≠ 0

/-- Every byte of an access of `n` bytes is within the limit of its segment (20_memory.md R93). -/
def Within (g : Segment) (off : DWord) (n : Nat) : Prop :=
  if g.expandDown = true ∧ g.executable = false then
    ∀ k < n, g.limit.toNat < off.toNat + k ∧ off.toNat + k ≤ (if g.big = true then 0xFFFFFFFF else 0xFFFF)
  else ∀ k < n, off.toNat + k ≤ g.limit.toNat

/-- In protected mode a write needs a writable segment, and a read of a code segment a readable one (20_memory.md R94). -/
def Permitted (s : State) (g : Segment) (kind : AccessKind) : Prop :=
  s.protectedMode = true → (kind = .write → g.writable = true ∧ g.executable = false) ∧
    (kind = .read → g.executable = true → g.readable = true)

/-- The linear address of byte `k` of an access (20_memory.md R81). -/
def byteAddress (g : Segment) (a : OpSize) (off : DWord) (k : Nat) : DWord :=
  g.base + a.wrap (off + BitVec.ofNat 32 k)

/-- The item of `n` bytes that starts at byte `k` of an access is aligned, where that is checked (20_memory.md R88). -/
def Aligned (s : State) (g : Segment) (a : OpSize) (off : DWord) (k n : Nat) : Prop :=
  s.cr0.am = true → s.flags.ac = true → s.cpl = 3 → (byteAddress g a off k).toNat % n = 0

/-! ## Calls -/

/-- The near calls (44_call.md R251, R252): the operand size, the target, the registers read and the instruction. -/
inductive NearCall (s : State) : OpSize → DWord → List Reg → Instr → Prop where
  | rel16 (rel : Word) : NearCall s .s16 ((s.nextPc + rel.signExtend 32) &&& 0xFFFF) [.esp] (.callRel16 rel)
  | rel32 (rel : DWord) : NearCall s .s32 (s.nextPc + rel) [.esp] (.callRel32 rel)
  | rm16 (rm : RM) (from_ : List Nat) (h : s.openPlace rm.place16 .read = .ok from_) :
    NearCall s .s16 ((s.peek rm.place16 from_).setWidth 32) (.esp :: rm.place16.regs) (.callRm16 rm)
  | rm32 (rm : RM) (from_ : List Nat) (h : s.openPlace rm.place32 .read = .ok from_) :
    NearCall s .s32 (s.peek rm.place32 from_) (.esp :: rm.place32.regs) (.callRm32 rm)

/-- The far calls (44_call.md R254, R255): the operand size, the selector and the offset, the registers read and the
instruction. -/
inductive FarCall (s : State) : OpSize → Word → DWord → List Reg → Instr → Prop where
  | ptr16 (sel off : Word) : FarCall s .s16 sel (off.setWidth 32) [.esp] (.callPtr16 sel off)
  | ptr32 (sel : Word) (off : DWord) : FarCall s .s32 sel off [.esp] (.callPtr32 sel off)
  | m16x16 (m : MemOp) (o0 o1 s0 s1 : Nat) (h : s.memAccess m [2, 2] .read = .ok [o0, o1, s0, s1]) :
    FarCall s .s16 (Memory.read s.mem s1 ++ Memory.read s.mem s0)
      ((Memory.read s.mem o1 ++ Memory.read s.mem o0).setWidth 32) (.esp :: m.ea.regs) (.callM16x16 m)
  | m16x32 (m : MemOp) (o0 o1 o2 o3 s0 s1 : Nat) (h : s.memAccess m [4, 2] .read = .ok [o0, o1, o2, o3, s0, s1]) :
    FarCall s .s32 (Memory.read s.mem s1 ++ Memory.read s.mem s0)
      (Memory.read s.mem o3 ++ Memory.read s.mem o2 ++ Memory.read s.mem o1 ++ Memory.read s.mem o0)
      (.esp :: m.ea.regs) (.callM16x32 m)

/-- The stack offset `n` bytes below another one (20_memory.md R97). -/
def below (s : State) (n : Nat) (sp : DWord) : DWord :=
  match s.stackSize with
  | .s32 => sp - BitVec.ofNat 32 n
  | .s16 => (sp - BitVec.ofNat 32 n) &&& 0xFFFF

/-- The current stack offset: ESP, or SP (20_memory.md R97). -/
def stackTop (s : State) : DWord :=
  match s.stackSize with
  | .s32 => s.regs.esp
  | .s16 => s.regs.esp &&& 0xFFFF

/-- ESP has gone down to `sp`, or SP has with bits 31:16 of ESP as before; no other register has changed (20_memory.md
R97). -/
def StackMoved (sp : DWord) (s t : State) : Prop :=
  (match s.stackSize with
    | .s32 => t.reg32 .esp = sp
    | .s16 => t.reg32 .esp = (s.reg32 .esp).extractLsb' 16 16 ++ sp.extractLsb' 0 16) ∧
  OthersKept .esp s t

/-- What a far call leaves: the return address on the stack, CS first, and the stack pointer moved (44_call.md R256,
R259; 20_memory.md R97). The bytes above a pushed selector are not stated. -/
def FarReturnPushed (n : OpSize) (cs ip : List Nat) (s t : State) : Prop :=
  StackMoved (below s n.bytes (below s n.bytes (stackTop s))) s t ∧
  MemorySameOutside (cs ++ ip) s t ∧
  (∀ a, a ∈ t.stored ↔ a ∈ cs ++ ip ∨ a ∈ s.stored) ∧
  Holds ip s.nextPc t ∧ ((cs ++ ip).Nodup → Holds (cs.take 2) s.segs.cs.selector t)

/-- The two pushes of a far call are permitted, at the physical addresses `cs` and `ip` (20_memory.md R95, R97). -/
def FarRoom (n : OpSize) (cs ip : List Nat) (s : State) : Prop :=
  s.segAccess .ss s.stackSize (below s n.bytes (stackTop s)) [n.bytes] .write = .ok cs ∧
  s.segAccess .ss s.stackSize (below s n.bytes (below s n.bytes (stackTop s))) [n.bytes] .write = .ok ip

/-- Both pushes of a far call are inside SS (20_memory.md R96). -/
def FarWithin (n : OpSize) (s : State) : Prop :=
  Within s.segs.ss (below s n.bytes (stackTop s)) n.bytes ∧
  Within s.segs.ss (below s n.bytes (below s n.bytes (stackTop s))) n.bytes

/-- What the pushes of a far call raise: the first one's fault, or the second one's where the first is permitted
(20_memory.md R95, R97). -/
def FarPushFaults (n : OpSize) (f : Fault) (s : State) : Prop :=
  let push := fun off => s.segAccess .ss s.stackSize off [n.bytes] .write
  push (below s n.bytes (stackTop s)) = .error (.fault f) ∨
  (∃ cs, push (below s n.bytes (stackTop s)) = .ok cs) ∧
    push (below s n.bytes (below s n.bytes (stackTop s))) = .error (.fault f)

/-- The effective limit of a segment descriptor, by its granularity bit (44_call.md R258). -/
def limitOf (d : QWord) : Nat :=
  let raw := (d.extractLsb' 48 4).toNat * 2 ^ 16 + (d.extractLsb' 0 16).toNat
  if d.getLsbD 55 = true then raw * 4096 + 4095 else raw

/-- A segment register part has what a code or data descriptor says, its selector apart (10_state.md R52; 44_call.md
R258): bits 42 and 41 are C and R of a code segment, E and W of a data segment. -/
def Describes (d : QWord) (g : Segment) : Prop :=
  g.base = d.extractLsb' 56 8 ++ d.extractLsb' 16 24 ∧ g.limit.toNat = limitOf d ∧ g.present = d.getLsbD 47 ∧
  g.dpl = d.extractLsb' 45 2 ∧ g.big = d.getLsbD 54 ∧ g.executable = d.getLsbD 43 ∧
  (d.getLsbD 43 = true → g.conforming = d.getLsbD 42 ∧ g.readable = d.getLsbD 41 ∧ g.expandDown = false ∧
    g.writable = false) ∧
  (d.getLsbD 43 = false → g.expandDown = d.getLsbD 42 ∧ g.writable = d.getLsbD 41 ∧ g.conforming = false ∧
    g.readable = true)

/-- The offsets of `count` pushes of `n` bytes to a new stack, from ESP, or from SP where B of its segment is 0, down
(20_memory.md R97; 30_encoding.md R131). -/
def newSlots (ss : Segment) (esp : DWord) (n count : Nat) : List DWord :=
  (List.range count).map fun k =>
    let down := esp - BitVec.ofNat 32 ((k + 1) * n)
    if ss.big = true then down else down &&& 0xFFFF

/-- The pushes of `n` bytes to a new stack are aligned and translated, at these physical addresses (20_memory.md R95,
R97); the alignment is checked at the caller's CPL (log 22). -/
def NewStackOpens (s : State) (ss : Segment) (n : Nat) (slots : List DWord) (addrs : List (List Nat)) : Prop :=
  let a : OpSize := if ss.big = true then .s32 else .s16
  addrs.length = slots.length ∧
  ∀ (k : Nat) (off : DWord), slots[k]? = some off → Aligned s ss a off 0 n ∧
    ∃ l : List Nat, addrs[k]? = some l ∧ l.length = n ∧
      ∀ j < n, ∃ x, l[j]? = some x ∧ s.translate .write (byteAddress ss a off j) = .ok x

/-- The parameter count of a call gate (44_call.md R258, R264). -/
def gateParameters (gate : QWord) : Nat := (gate.extractLsb' 32 5).toNat

/-- The offset that a call gate of size `g` holds (44_call.md R258, R264). -/
def gateTargetOffset (g : OpSize) (gate : QWord) : DWord :=
  match g with
  | .s16 => (gate.extractLsb' 0 16).setWidth 32
  | .s32 => gate.extractLsb' 48 16 ++ gate.extractLsb' 0 16

/-- A far CALL in the IA-32 System Environment that reaches a system descriptor of one of these types, which passes the
tests of its privilege level and its present bit (44_call.md R261, R266, R267). -/
def ReachesGate (s : State) (types : List Nat) (gate : QWord) (i : Instr) : Prop :=
  ∃ (n : OpSize) (sel : Word) (off : DWord) (regs : List Reg),
    FarCall s n sel off regs i ∧ s.protectedMode = true ∧ s.itaniumSE = false ∧ sel.extractLsb' 2 14 ≠ 0 ∧
    s.inTable sel = true ∧ s.readDescriptor sel = .ok gate ∧ gate.getLsbD 44 = false ∧
    (gate.extractLsb' 40 4).toNat ∈ types ∧ s.cpl.toNat ≤ (gate.extractLsb' 45 2).toNat ∧
    (sel.extractLsb' 0 2).toNat ≤ (gate.extractLsb' 45 2).toNat ∧ gate.getLsbD 47 = true

/-- A fault of the instruction with a selector as error code: bits 1:0 are 0 (60_exceptions.md R353). -/
def selectorFault (s : State) (e : Exception) (sel : Word) : Host.Outcome State Fault Refusal :=
  .fault (.exception e (some (sel &&& 0xFFFC)) s.pc none)

/-- No taken-branch trap follows a call (44_call.md R268). -/
def NoBranchTrap (s : State) : Prop := s.itaniumSE = true → s.psr.tb = false

/-- The states a step goes on to: the next one, or the one that a trap reports (60_exceptions.md R352). -/
def StepsTo (s t : State) : Prop :=
  step s = .next t ∨ step s = .fault (.debugTrap t) ∨ step s = .fault (.systemFlagTrap t)

end Sys2Proof.Claims

open Sys2Proof Sys2Proof.Machine Sys2Proof.Claims

/-! ## Decoding -/

/-- Words written out from the encodings of 30_encoding.md R121 to R137 and the worked examples of the section files
decode to the instructions they stand for. -/
def Obligations.SelectedEncodingsDecode : Prop :=
  decode .s32 [0x83, 0xC0, 0xFF] = .done (.addRm32Ib false (.reg .eax) 0xFF) [] ∧
  decode .s32 [0x66, 0x83, 0xC0, 0xFF] = .done (.addRm16Ib false (.reg .eax) 0xFF) [] ∧
  decode .s32 [0x80, 0x25, 0x00, 0x20, 0x00, 0x00, 0x0F] =
    .done (.andRm8Ib false (.mem { seg := .ds, ea := .a32 none none 0x2000 }) 0x0F) [] ∧
  decode .s32 [0xFF, 0x14, 0x24] = .done (.callRm32 (.mem { seg := .ss, ea := .a32 (some .esp) none 0 })) [] ∧
  decode .s32 [0x67, 0x01, 0x06, 0x00, 0x20] =
    .done (.addRm32R32 false (.mem { seg := .ds, ea := .a16 none 0x2000 }) .eax) [] ∧
  decode .s32 [0x9A, 0x00, 0x10, 0x00, 0x00, 0x08, 0x00] = .done (.callPtr32 0x0008 0x00001000) [] ∧
  decode .s16 [0x9A, 0x00, 0x01, 0x00, 0x20] = .done (.callPtr16 0x2000 0x0100) [] ∧
  decode .s32 [0x0F, 0xBA, 0x3B, 0x07] =
    .done (.btcRm32Ib false (.mem { seg := .ds, ea := .a32 (some .ebx) none 0 }) 7) [] ∧
  decode .s16 [0x98] = .done .cbw [] ∧ decode .s16 [0x66, 0x98] = .done .cwde [] ∧
  decode .s32 [0xF0, 0x0F, 0xC7, 0x0E] =
    .done (.cmpxchg8b true { seg := .ds, ea := .a32 (some .esi) none 0 }) [] ∧
  decode .s32 [0x0F, 0x4C, 0xC3] = .done (.cmovL32 .eax (.reg .ebx)) [] ∧
  decode .s32 [0x62, 0x03] = .done (.boundR32 .eax { seg := .ds, ea := .a32 (some .ebx) none 0 }) []

/-- Decoding the encoding of a well-formed instruction gives the instruction back and leaves the bytes after it, for
either default size of the code segment and whatever bytes follow; and the encoding has 1 to 15 bytes. -/
def Obligations.DecodeInvertsEncode : Prop :=
  ∀ (d : OpSize) (i : Instr), 1 ≤ (encode d i).length ∧ (encode d i).length ≤ 15 ∧
    (i.wellFormed = true → ∀ rest : List Byte, decode d (encode d i ++ rest) = .done i rest)

/-- What the decoder reads is a well-formed instruction. It has read at least one byte of what it was given, and those
bytes alone decide what the instruction is: whatever other bytes follow them, it is the same one and they are left. -/
def Obligations.DecoderReadsOneWellFormedInstruction : Prop :=
  ∀ (d : OpSize) (bs rest : List Byte) (i : Instr), decode d bs = .done i rest →
    i.wellFormed = true ∧
    ∃ used : List Byte, used ≠ [] ∧ bs = used ++ rest ∧ ∀ other : List Byte, decode d (used ++ other) = .done i other

/-- A prefix F2H or F3H, wherever it stands among the prefixes, makes the decoder refuse the instruction: the spec's own
decision D22, and for other instructions than CMPS the model's (log 15). -/
def Obligations.RepeatPrefixIsRefused : Prop :=
  ∀ (d : OpSize) (before rest : List Byte) (b : Byte),
    (∀ p ∈ before, p ∈ [(0xF0 : Byte), 0xF2, 0xF3, 0x26, 0x2E, 0x36, 0x3E, 0x64, 0x65, 0x66, 0x67]) →
    b ∈ [(0xF2 : Byte), 0xF3] → decode d (before ++ b :: rest) = .rep

/-- The encodings of 30_encoding.md R139 that are undefined in every mode: BOUND, CMPXCHG8B and the far CALL with a
register where memory is required, and the reserved extensions of the groups FF, FE, 0F BA and 0F C7. Five bytes after a
ModR/M byte hold any operand. -/
def Obligations.ReservedEncodingsAreUndefined : Prop :=
  ∀ (d : OpSize) (m : Byte) (rest : List Byte), 5 ≤ rest.length →
    (m.extractLsb' 6 2 = 3 → decode d (0x62 :: m :: rest) = .undefined) ∧
    (m.extractLsb' 6 2 = 3 → decode d (0x0F :: 0xC7 :: m :: rest) = .undefined) ∧
    (m.extractLsb' 6 2 = 3 → m.extractLsb' 3 3 = 3 → decode d (0xFF :: m :: rest) = .undefined) ∧
    (m.extractLsb' 3 3 = 7 → decode d (0xFF :: m :: rest) = .undefined) ∧
    (2 ≤ (m.extractLsb' 3 3).toNat → decode d (0xFE :: m :: rest) = .undefined) ∧
    ((m.extractLsb' 3 3).toNat < 4 → decode d (0x0F :: 0xBA :: m :: rest) = .undefined) ∧
    (m.extractLsb' 3 3 ≠ 1 → decode d (0x0F :: 0xC7 :: m :: rest) = .undefined)

/-- What decodes after a LOCK prefix carries the lock and has a memory destination. Every other instruction is undefined
after it: those outside the lockable set, whatever their operands, and the lockable ones, ADC, ADD, AND, BTC, BTR, BTS,
CMPXCHG and DEC, with a register destination. That the lockable set is this one is the spec's decision D23. -/
def Obligations.LockNeedsMemoryDestination : Prop :=
  ∀ (d : OpSize) (rest : List Byte),
    (∀ (bs : List Byte) (i : Instr), decode d (0xF0 :: bs) = .done i rest → i.locked = true ∧ i.wellFormed = true) ∧
    ∀ i : Instr, NotLockable i → i.wellFormed = true → decode d (0xF0 :: encode d i ++ rest) = .undefined

/-! ## The step -/

/-- When the bytes at the instruction pointer decode to an instruction, the step is its meaning at that state with the
offset after it noted; `first_after_entry` is cleared where the instruction completes, and every fault and refusal of
the meaning is the step's. -/
def Obligations.StepRunsDecodedInstruction : Prop :=
  ∀ (s : State) (w : Window) (i : Instr) (rest : List Byte),
    s.atEnd = false → s.highFpFault = false → s.fetchWindow 15 0 = w → decode s.codeSize w.bytes = .done i rest →
    let s' := { s with nextPc := s.pc + BitVec.ofNat 32 (w.bytes.length - rest.length) }
    (∀ t, exec i s' = .next t → step s = .next { t with firstAfterEntry := false }) ∧
    (∀ t, exec i s' = .fault (.debugTrap t) → step s = .fault (.debugTrap { t with firstAfterEntry := false })) ∧
    (∀ t, exec i s' = .fault (.systemFlagTrap t) →
      step s = .fault (.systemFlagTrap { t with firstAfterEntry := false })) ∧
    (∀ e c ip a, exec i s' = .fault (.exception e c ip a) → step s = .fault (.exception e c ip a)) ∧
    (∀ k ip, exec i s' = .fault (.intercept k ip) → step s = .fault (.intercept k ip)) ∧
    (∀ f ip a, exec i s' = .fault (.itanium f ip a) → step s = .fault (.itanium f ip a)) ∧
    (∀ r, exec i s' = .refused r → step s = .refused r)

/-- What stops a step before an instruction runs: the end of the run; the Disabled FP Register fault of the first
instruction after entry; bytes that end too soon, whose stop is that of the byte that could not be fetched, or `#GP(0)`
where fifteen bytes are not enough (log 16); an undefined encoding; an opcode of no captured page; a repeat prefix. -/
def Obligations.StepStopsBeforeExecuting : Prop :=
  ∀ s : State,
    (s.cfg.endEip = some s.pc → step s = .fault .runEnded) ∧
    (s.cfg.endEip ≠ some s.pc → s.itaniumSE = true → s.firstAfterEntry = true → s.psr.dfh = true →
      step s = .fault (.itanium .disabledFpRegister s.pc none)) ∧
    (s.cfg.endEip ≠ some s.pc → s.highFpFault = false →
      (decode s.codeSize (s.fetchWindow 15 0).bytes = .truncated → ∀ f, (s.fetchWindow 15 0).stop = some (.fault f) →
        step s = .fault f) ∧
      (decode s.codeSize (s.fetchWindow 15 0).bytes = .truncated → (s.fetchWindow 15 0).stop = none →
        step s = .fault (.exception .gp (if s.realMode then none else some 0) s.pc none)) ∧
      (decode s.codeSize (s.fetchWindow 15 0).bytes = .undefined →
        step s = .fault (.exception .ud none s.pc none)) ∧
      (∀ t o, decode s.codeSize (s.fetchWindow 15 0).bytes = .outOfScope t o →
        step s = .refused (.opcodeOutOfScope t o)) ∧
      (decode s.codeSize (s.fetchWindow 15 0).bytes = .rep → step s = .refused .repPrefix))

/-- Every byte that the instruction needs is checked, in order: where the bytes before number `k`, each within the limit
of CS, translated and not stored to since the last CPUID, do not complete an instruction, byte `k` raises `#GP(0)`
(`#GP` in real-address mode) beyond the limit, else the fault of its translation, and is refused where it has been
stored to: the model's reading of 20_memory.md R112 (log 13). -/
def Obligations.FetchChecksLimitAndModifiedCode : Prop :=
  ∀ (s : State) (k : Nat) (bytes : List Byte), s.atEnd = false → s.highFpFault = false → k < 15 → bytes.length = k →
    (∀ j < k, (s.pc + BitVec.ofNat 32 j).toNat ≤ s.segs.cs.limit.toNat ∧
      ∃ a, s.translate .fetch (s.segs.cs.base + (s.pc + BitVec.ofNat 32 j)) = .ok a ∧ a ∉ s.stored ∧
        bytes[j]? = some (Memory.read s.mem a)) →
    decode s.codeSize bytes = .truncated →
    let off := s.pc + BitVec.ofNat 32 k
    (s.segs.cs.limit.toNat < off.toNat →
      step s = .fault (.exception .gp (if s.realMode then none else some 0) s.pc none)) ∧
    (off.toNat ≤ s.segs.cs.limit.toNat →
      (∀ f, s.translate .fetch (s.segs.cs.base + off) = .error (.fault f) → step s = .fault f) ∧
      ∀ a, s.translate .fetch (s.segs.cs.base + off) = .ok a → a ∈ s.stored → step s = .refused .modifiedCode)

/-! ## Invariants and rules of the whole machine -/

/-- The launch state has what every step keeps: memory and the record of stores in their canonical form, and the
privilege level in the selector of CS. The launch state is the model's choice (logs 1 and 2). -/
def Obligations.ResetMeetsTheInvariants : Prop :=
  Memory.wf State.reset.mem = true ∧ rising State.reset.stored = true ∧ State.reset.protectedMode = true ∧
  rpl State.reset.segs.cs.selector = State.reset.cpl

/-- Every step keeps memory and the record of stores in their canonical form: addresses strictly rising. -/
def Obligations.EveryStepKeepsMemoryCanonical : Prop :=
  ∀ s t : State, Memory.wf s.mem = true → rising s.stored = true → StepsTo s t →
    Memory.wf t.mem = true ∧ rising t.stored = true

/-- No step changes the NaT bits, the descriptor tables, LDTR, TR, CR4, PSR, CFLG, DCR.lc, the unnamed bits, the launch
configuration, a segment register other than CS and SS, a bit of CR0 other than TS, or a flag of EFLAGS other than the
six status flags, DF, IF and VIF; and DF, IF, VIF and TS only ever go to 0. -/
def Obligations.EveryStepKeepsSystemState : Prop :=
  ∀ s t : State, StepsTo s t →
    t.nat = s.nat ∧ t.gdtr = s.gdtr ∧ t.idtr = s.idtr ∧ t.ldtr = s.ldtr ∧ t.tr = s.tr ∧ t.cr4 = s.cr4 ∧ t.psr = s.psr ∧
    t.cflg = s.cflg ∧ t.dcrLc = s.dcrLc ∧ t.unnamed = s.unnamed ∧ t.cfg = s.cfg ∧
    t.cr0 = { s.cr0 with ts := t.cr0.ts } ∧ (t.cr0.ts = true → s.cr0.ts = true) ∧
    t.segs = { s.segs with cs := t.segs.cs, ss := t.segs.ss } ∧
    t.flags = { s.flags with df := t.flags.df, ifl := t.flags.ifl, vif := t.flags.vif } ∧
    (t.flags.df = true → s.flags.df = true) ∧ (t.flags.ifl = true → s.flags.ifl = true) ∧
    (t.flags.vif = true → s.flags.vif = true)

/-- In protected mode every step keeps CPL equal to bits 1:0 of the selector of CS. -/
def Obligations.EveryStepKeepsPrivilegeInSelector : Prop :=
  ∀ s t : State, s.protectedMode = true → rpl s.segs.cs.selector = s.cpl → StepsTo s t →
    rpl t.segs.cs.selector = t.cpl

/-- Every byte of memory that a step changes is in the record of stores after it, where fetching looks. -/
def Obligations.ChangedBytesAreRecorded : Prop :=
  ∀ s t : State, StepsTo s t → ∀ a, Memory.read t.mem a ≠ Memory.read s.mem a → a ∈ t.stored

/-- The privilege level changes only by a far CALL in protected mode in the IA-32 System Environment, and only to a more
privileged level. -/
def Obligations.PrivilegeRisesOnlyByFarCall : Prop :=
  ∀ s t : State, StepsTo s t → t.cpl ≠ s.cpl →
    t.cpl.toNat < s.cpl.toNat ∧ s.itaniumSE = false ∧ s.protectedMode = true ∧
    ∃ i next, s.fetchInstr = .ok (i, next) ∧
      ((∃ sel off, i = .callPtr16 sel off) ∨ (∃ sel off, i = .callPtr32 sel off) ∨ (∃ m, i = .callM16x16 m) ∨
        ∃ m, i = .callM16x32 m)

/-- CR0.TS changes only by a CLTS in the IA-32 System Environment, in real-address mode or at privilege level 0. -/
def Obligations.TaskSwitchedClearedOnlyWithPrivilege : Prop :=
  ∀ s t : State, StepsTo s t → t.cr0.ts ≠ s.cr0.ts →
    (∃ next, s.fetchInstr = .ok (.clts, next)) ∧ s.itaniumSE = false ∧ (s.realMode = true ∨ s.cpl = 0)

/-- IF changes only by a CLI that IOPL allows: in real-address mode, in protected mode with CPL at most IOPL, in
virtual-8086 mode with IOPL 3. -/
def Obligations.InterruptFlagChangesOnlyWithPrivilege : Prop :=
  ∀ s t : State, StepsTo s t → t.flags.ifl ≠ s.flags.ifl →
    (∃ next, s.fetchInstr = .ok (.cli, next)) ∧
    (s.realMode = true ∨ (s.protectedMode = true ∧ s.cpl.toNat ≤ s.flags.iopl.toNat) ∨
      (s.v86Mode = true ∧ s.flags.iopl = 3))

/-- A fault of any instruction reports the instruction's first byte; the only exceptions raised are nine of Table 2-2;
and an exception has an error code exactly when it is one of `#TS`, `#NP`, `#SS`, `#GP`, `#AC` outside real-address
mode. That `#PF`, which R353 prints with a fault-code, is recorded with none is the spec's decision D2: 20_memory.md R101
gives the code no value. -/
def Obligations.FaultsReportTheInstruction : Prop :=
  ∀ s : State,
    (∀ e code ip address, step s = .fault (.exception e code ip address) →
      ip = s.pc ∧ e ∈ [Exception.de, .br, .ud, .ts, .np, .ss, .gp, .pf, .ac] ∧
      (code ≠ none ↔ e ∈ [Exception.ts, .np, .ss, .gp, .ac] ∧ s.realMode = false)) ∧
    (∀ k ip, step s = .fault (.intercept k ip) → ip = s.pc) ∧
    (∀ f ip address, step s = .fault (.itanium f ip address) → ip = s.pc)

/-- Intercepts, Itanium faults and the two traps exist only in the Itanium System Environment; `#PF`, `#TS` and the
refused task switch only in the IA-32 System Environment. That `#PF` is raised there alone is the spec's decision D35,
and that it is never raised in real-address mode is the model's choice (log 26). -/
def Obligations.EnvironmentsSeparateEvents : Prop :=
  ∀ s : State,
    ((∃ k ip, step s = .fault (.intercept k ip)) ∨ (∃ f ip a, step s = .fault (.itanium f ip a)) ∨
      (∃ t, step s = .fault (.debugTrap t)) ∨ (∃ t, step s = .fault (.systemFlagTrap t)) → s.itaniumSE = true) ∧
    ((∃ code ip a, step s = .fault (.exception .pf code ip a)) → s.itaniumSE = false ∧ s.realMode = false) ∧
    ((∃ code ip a, step s = .fault (.exception .ts code ip a)) → s.itaniumSE = false) ∧
    (step s = .refused .taskSwitch → s.itaniumSE = false)

/-! ## Memory access -/

/-- A byte translates to its place in the physical page that the launch's oracle gives, where the memory map covers it. A
segment-relative access of consecutive items succeeds exactly when the segment is not null, every offset is within the
limit, the segment may be written or read, every item is aligned where alignment is checked, and every byte translates;
and it gives the physical addresses of its bytes, lowest first. The access to a memory operand is the one to its segment
at its effective address: with 16-bit addressing the low words of the registers of the form and the displacement, modulo
2^16; with 32-bit addressing the base, the index times 2^scale and the displacement, modulo 2^32. The form of the oracle,
and that a page of no entry is mapped to itself, are the model's choice (log 4). -/
def Obligations.SegmentAccessPermitted : Prop :=
  (∀ (s : State) (kind : AccessKind) (la : DWord) (p : Nat),
    OracleAnswers s kind (pageOf s la) (.frame p) → Covered s p →
    s.translate kind la = .ok (p * 2 ^ s.cfg.pageShift + la.toNat % 2 ^ s.cfg.pageShift)) ∧
  (∀ (s : State) (b : Option Base16) (disp : Word), (s.offset (.a16 b disp)).toNat =
    (((addends b).map fun r => (s.reg32 r).toNat % 2 ^ 16).sum + disp.toNat) % 2 ^ 16) ∧
  (∀ (s : State) (b : Option Reg) (x : Option (Reg × BitVec 2)) (disp : DWord), (s.offset (.a32 b x disp)).toNat =
    ((b.elim 0 fun r => (s.reg32 r).toNat) + (x.elim 0 fun i => (s.reg32 i.1).toNat * 2 ^ i.2.toNat) + disp.toNat) %
      2 ^ 32) ∧
  (∀ (s : State) (m : MemOp) (items : List Nat) (kind : AccessKind), s.memAccess m items kind =
    s.segAccess m.seg (match m.ea with | .a16 _ _ => .s16 | .a32 _ _ _ => .s32) (s.offset m.ea) items kind) ∧
  (∀ s : State, [SegReg.es, .cs, .ss, .ds, .fs, .gs].map s.seg =
    [s.segs.es, s.segs.cs, s.segs.ss, s.segs.ds, s.segs.fs, s.segs.gs]) ∧
  (∀ off : DWord, (OpSize.s16.wrap off).toNat = off.toNat % 2 ^ 16 ∧ OpSize.s32.wrap off = off) ∧
  ∀ (s : State) (r : SegReg) (a : OpSize) (off : DWord) (items : List Nat) (kind : AccessKind) (p : List Nat),
    0 < items.sum →
    (s.segAccess r a off items kind = .ok p ↔
      NotNull s r ∧ Within (s.seg r) off items.sum ∧ Permitted s (s.seg r) kind ∧
      (∀ k n, items[k]? = some n → Aligned s (s.seg r) a off (items.take k).sum n) ∧
      p.length = items.sum ∧
      ∀ k < items.sum, ∃ x, p[k]? = some x ∧ s.translate kind (byteAddress (s.seg r) a off k) = .ok x)

/-- Which event an access raises, in the order that 20_memory.md R95 writes: null segment, limit, permission, alignment of
the first item that is not aligned, translation of the first byte that has none. A byte whose oracle answer is a fault,
or whose physical page the memory map does not cover, raises that Itanium fault in the Itanium System Environment, and
`#PF` with its linear address and kind in the IA-32 System Environment. R90 and R375 say that no source gives the order:
it is a choice, which the model follows (log 11), and so are that the bytes are translated one by one (log 29), which
fault an uncovered page gives (log 4), and that in real-address mode in the IA-32 System Environment the byte is mapped
to its own number (log 26). That `#PF` is raised there alone is the spec's decision D35. -/
def Obligations.SegmentAccessFaultOrder : Prop :=
  (∀ (s : State) (kind : AccessKind) (la : DWord) (f : ItaniumFault), TranslationFaults s kind (pageOf s la) f →
    s.translate kind la =
      if s.itaniumSE = true then .error (.fault (.itanium f s.pc (some { la := la, kind := kind })))
      else if s.realMode = true then .ok la.toNat
      else .error (.fault (.exception .pf none s.pc (some { la := la, kind := kind })))) ∧
  ∀ (s : State) (r : SegReg) (a : OpSize) (off : DWord) (items : List Nat) (kind : AccessKind), 0 < items.sum →
    let g := s.seg r
    let code : Option Word := if s.realMode = true then none else some 0
    let raises := fun e : Stop => s.segAccess r a off items kind = .error e
    let aligned := fun k n => Aligned s g a off (items.take k).sum n
    (¬NotNull s r → raises (.fault (.exception .gp code s.pc none))) ∧
    (NotNull s r → ¬Within g off items.sum →
      raises (.fault (.exception (if r = .ss then .ss else .gp) code s.pc none))) ∧
    (NotNull s r → Within g off items.sum → ¬Permitted s g kind → raises (.fault (.exception .gp code s.pc none))) ∧
    (NotNull s r → Within g off items.sum → Permitted s g kind →
      (∀ k n, items[k]? = some n → (∀ j m, j < k → items[j]? = some m → aligned j m) → ¬aligned k n →
        raises (.fault (.exception .ac code s.pc
          (some { la := byteAddress g a off (items.take k).sum, kind := kind })))) ∧
      ((∀ k n, items[k]? = some n → aligned k n) → ∀ k < items.sum,
        (∀ j < k, ∃ x, s.translate kind (byteAddress g a off j) = .ok x) →
        ∀ e, s.translate kind (byteAddress g a off k) = .error e → raises e))

/-- Memory is little-endian, which 20_memory.md R85 marks as general knowledge: a load takes each byte of the value,
lowest first, from its address; storing a value at distinct addresses puts its bytes there, lowest first, and changes no
other byte; loading from those addresses gives the value back, and loading from the first of them its low bytes. A
memory operand is such a load; a 32-bit register operand is the register, a 16-bit one its bits 15:0, AL, CL, DL and BL
are bits 7:0 of EAX, ECX, EDX and EBX, and AH, CH, DH and BH their bits 15:8; an immediate operand is its value. -/
def Obligations.StoredValuesAreReadBack : Prop :=
  (∀ s : State, [Reg.eax, .ecx, .edx, .ebx, .esp, .ebp, .esi, .edi].map s.reg32 =
    [s.regs.eax, s.regs.ecx, s.regs.edx, s.regs.ebx, s.regs.esp, s.regs.ebp, s.regs.esi, s.regs.edi]) ∧
  (∀ (s : State) (addrs : List Nat),
    (∀ r, s.peek (.r32 r) addrs = s.reg32 r ∧ s.peek (.r16 r) addrs = (s.reg32 r).extractLsb' 0 16) ∧
    (∀ b ∈ byteRegisters, s.peek (.r8 b.1) addrs = (s.reg32 b.2.1).extractLsb' b.2.2 8) ∧
    (∀ (w : Nat) (m : MemOp), s.peek (.mem m : Place w) addrs = s.load w addrs) ∧
    ∀ (w : Nat) (v : BitVec w) (p : Place w), s.operand (.imm v) addrs = v ∧
      s.operand (.place p) addrs = s.peek p addrs) ∧
  ∀ (s : State) (w : Nat) (v : BitVec w) (addrs : List Nat), w = 8 * addrs.length →
    (∀ k a, addrs[k]? = some a → (s.load w addrs).extractLsb' (8 * k) 8 = Memory.read s.mem a) ∧
    (addrs.Nodup → StoredAt addrs v s (s.store addrs v) ∧ (s.store addrs v).load w addrs = v ∧
      ∀ n ≤ addrs.length, (s.store addrs v).load (8 * n) (addrs.take n) = v.extractLsb' 0 (8 * n))

/-! ## Integer arithmetic and logic -/

/-- ADD: the destination becomes the sum modulo 2^N and the six status flags follow R45 to R50 with no carry in, for its
fourteen forms; nothing else changes. That the old value of a memory destination is read at the physical addresses which
its write access gives, with no access of kind read, is the model's choice (log 37). -/
def Obligations.AddStoresTheSum : Prop :=
  ∀ (lock : Bool) (w : Nat) (dst : Place w) (src : Operand w) (i : Instr) (s : State) (addrs from_ : List Nat),
    AluForm addForms lock dst src i → Readable s (dst.regs ++ src.regs) → s.checkLockPlace .add lock dst = .ok () →
    s.openPlace dst .write = .ok addrs → s.openOperand src = .ok from_ →
    let a := s.peek dst addrs
    let b := s.operand src from_
    ∃ t, exec i s = .next t ∧ Completed 0 s t ∧ Written dst addrs (a + b) s t ∧ SumFlags t.status a b false (a + b)

/-- ADC: as ADD, with CF as the carry in, in the result and in every flag; for its fourteen forms. That the old value of
a memory destination is read at the physical addresses which its write access gives, with no access of kind read, is the
model's choice (log 37). -/
def Obligations.AdcStoresTheSumWithCarry : Prop :=
  ∀ (lock : Bool) (w : Nat) (dst : Place w) (src : Operand w) (i : Instr) (s : State) (addrs from_ : List Nat),
    AluForm adcForms lock dst src i → Readable s (dst.regs ++ src.regs) → s.checkLockPlace .adc lock dst = .ok () →
    s.openPlace dst .write = .ok addrs → s.openOperand src = .ok from_ →
    let a := s.peek dst addrs
    let b := s.operand src from_
    let r := a + b + (if s.status.cf then 1 else 0)
    ∃ t, exec i s = .next t ∧ Completed 0 s t ∧ Written dst addrs r s t ∧ SumFlags t.status a b s.status.cf r

/-- AND: the destination becomes the bitwise AND, CF and OF become 0, PF, ZF and SF follow the result, and AF may be
anything; for its fourteen forms. That the old value of a memory destination is read at the physical addresses which its
write access gives, with no access of kind read, is the model's choice (log 37). -/
def Obligations.AndStoresTheConjunction : Prop :=
  ∀ (lock : Bool) (w : Nat) (dst : Place w) (src : Operand w) (i : Instr) (s : State) (addrs from_ : List Nat),
    AluForm andForms lock dst src i → Readable s (dst.regs ++ src.regs) → s.checkLockPlace .and lock dst = .ok () →
    s.openPlace dst .write = .ok addrs → s.openOperand src = .ok from_ →
    let r := s.peek dst addrs &&& s.operand src from_
    ∃ t, exec i s = .next t ∧ Completed 1 s t ∧ Written dst addrs r s t ∧ t.status.cf = false ∧ t.status.ofl = false ∧
      ResultFlags t.status r

/-- CMP: the six status flags of the subtraction, and nothing else: both operands are read only, so a memory operand
needs no write permission; for its fourteen forms. -/
def Obligations.CmpSetsFlagsOnly : Prop :=
  ∀ (lock : Bool) (w : Nat) (dst : Place w) (src : Operand w) (i : Instr) (s : State) (addrs from_ : List Nat),
    AluForm cmpForms lock dst src i → Readable s (dst.regs ++ src.regs) →
    s.openPlace dst .read = .ok addrs → s.openOperand src = .ok from_ →
    let a := s.peek dst addrs
    let b := s.operand src from_
    ∃ f, exec i s = .next { s with status := f, pc := s.nextPc } ∧ DifferenceFlags f a b (a - b)

/-- DEC: the destination becomes one less modulo 2^N, CF stays, and OF, SF, ZF, AF and PF follow R194; for its five
forms. That the old value of a memory destination is read at the physical addresses which its write access gives, with
no access of kind read, is the model's choice (log 37). -/
def Obligations.DecSubtractsOneAndKeepsCarry : Prop :=
  ∀ (lock : Bool) (w : Nat) (dst : Place w) (i : Instr) (s : State) (addrs : List Nat),
    DecForm lock dst i → Readable s dst.regs → s.checkLockPlace .dec lock dst = .ok () →
    s.openPlace dst .write = .ok addrs →
    let a := s.peek dst addrs
    ∃ t, exec i s = .next t ∧ Completed 0 s t ∧ Written dst addrs (a - 1) s t ∧ t.status.cf = s.status.cf ∧
      (t.status.ofl = true ↔ a.toNat = 2 ^ (w - 1)) ∧ (t.status.af = true ↔ a.toNat % 16 = 0) ∧
      ResultFlags t.status (a - 1)

/-- DIV, for its three forms: with a divisor other than 0 and a quotient that fits, the quotient and the remainder go to
their registers, the six status flags may be anything, and nothing else changes; a divisor of 0, or a quotient too large
for its register, raises `#DE` and changes nothing. -/
def Obligations.DivDividesOrRaisesDivideError : Prop :=
  ∀ (s : State) (regs : List Reg) (dividend w : Nat) (src : Place w) (result : BitVec w → BitVec w → State → Prop)
    (i : Instr) (addrs : List Nat),
    DivForm s regs dividend src result i → Readable s (regs ++ src.regs) → s.openPlace src .read = .ok addrs →
    let v := (s.peek src addrs).toNat
    (v ≠ 0 → dividend / v < 2 ^ w → ∃ t, exec i s = .next t ∧ Completed 1 s t ∧ MemoryKept s t ∧
      result (BitVec.ofNat w (dividend / v)) (BitVec.ofNat w (dividend % v)) t) ∧
    (v = 0 ∨ 2 ^ w ≤ dividend / v → exec i s = .fault (.exception .de none s.pc none))

/-- ADC, ADD and AND check in this order: NaT bits, the lock intercept, the write access to the destination, the read of
the source; the first that fails is the instruction's event, and then nothing has changed. The place of the first two is
the model's (logs 11 and 28). So is that the destination has no check of kind read beside its write access (log 37). -/
def Obligations.ReadModifyWriteFaultOrder : Prop :=
  ∀ (f : AluForms) (op : LockOp) (lock : Bool) (w : Nat) (dst : Place w) (src : Operand w) (i : Instr) (s : State),
    (f, op) ∈ [(adcForms, LockOp.adc), (addForms, .add), (andForms, .and)] → AluForm f lock dst src i →
    (s.itaniumSE = true → (∃ r ∈ dst.regs ++ src.regs, s.nat.get r = true) →
      exec i s = .fault (.itanium .natConsumption s.pc none)) ∧
    (Readable s (dst.regs ++ src.regs) →
      (∀ e, s.checkLockPlace op lock dst = .error (.fault e) → exec i s = .fault e) ∧
      (s.checkLockPlace op lock dst = .ok () →
        (∀ e, s.openPlace dst .write = .error (.fault e) → exec i s = .fault e) ∧
        ∀ addrs e, s.openPlace dst .write = .ok addrs → s.openOperand src = .error (.fault e) → exec i s = .fault e))

/-- The lock intercept, for every form that LOCK may stand before with a memory destination: ADC, ADD, AND, BTC, BTR,
BTS, CMPXCHG, CMPXCHG8B and DEC, every width. The instruction ends in it, whatever its access would give, exactly when
it runs in the Itanium System Environment with DCR.lc set at a point where an external atomic lock is required, and is
CMPXCHG or CMPXCHG8B or the configuration says that all are intercepted. That the requirement is asked of a LOCK prefix
only and is a list of points is the model's choice (log 20). -/
def Obligations.LockInterceptComesBeforeTheAccess : Prop :=
  ∀ (s : State) (op : LockOp) (regs : List Reg) (la : DWord) (n : Nat) (i : Instr),
    LockForm s op regs la n i → Readable s regs →
    (exec i s = .fault (.intercept (.lock op) s.pc) ↔
      s.itaniumSE = true ∧ s.dcrLc = true ∧ { op := op, la := la, bytes := n } ∈ s.cfg.lockRequired ∧
        (op ∈ [LockOp.cmpxchg, .cmpxchg8b] ∨ s.cfg.lockInterceptAll = true))

/-! ## Decimal adjustment -/

/-- AAA and AAS, for both values of `bcd_variant`, the later one from what R170 and R173 mark as general knowledge: AX
is adjusted where the low digit is above 9 or AF is set, the high digit of AL becomes 0, CF and AF say whether it was
adjusted, the other four status flags may be anything, and EAX[31:16] and everything else is as before. The bytes are 37
and 3F. A set NaT bit of EAX aborts in the Itanium System Environment and stops nothing in the IA-32 System Environment:
R362 and R403 say so, the opening of 40_bcd_adjust.md does not, and following them is the model's choice (log 28). -/
def Obligations.AsciiAdjustAfterAddAndSubtract : Prop :=
  (∀ (z : OpSize) (rest : List Byte), decode z (0x37 :: rest) = .done .aaa rest ∧ decode z (0x3F :: rest) = .done .aas rest) ∧
  (∀ s : State, s.itaniumSE = true → s.nat.eax = true → ∀ i ∈ [Instr.aaa, .aas],
    exec i s = .fault (.itanium .natConsumption s.pc none)) ∧
  ∀ s : State, Readable s [.eax] →
    let ax := (s.reg32 .eax).extractLsb' 0 16
    let al : Byte := ax.extractLsb' 0 8
    let ah : Byte := ax.extractLsb' 8 8
    let adjust := 9 < al.toNat % 16 ∨ s.status.af = true
    (∃ t, exec .aaa s = .next t ∧ Completed 1 s t ∧ MemoryKept s t ∧
      (t.status.cf = true ↔ adjust) ∧ (t.status.af = true ↔ adjust) ∧
      (¬adjust → RegistersWritten (.r16 .eax) (ah ++ (al &&& 0x0F)) s t) ∧
      (adjust → s.cfg.bcdVariant = .source → RegistersWritten (.r16 .eax) ((ah + 1) ++ ((al + 6) &&& 0x0F)) s t) ∧
      (adjust → s.cfg.bcdVariant = .laterEdition → RegistersWritten (.r16 .eax) ((ax + 0x106) &&& 0xFF0F) s t)) ∧
    (∃ t, exec .aas s = .next t ∧ Completed 1 s t ∧ MemoryKept s t ∧
      (t.status.cf = true ↔ adjust) ∧ (t.status.af = true ↔ adjust) ∧
      (¬adjust → RegistersWritten (.r16 .eax) (ah ++ (al &&& 0x0F)) s t) ∧
      (adjust → s.cfg.bcdVariant = .source → RegistersWritten (.r16 .eax) ((ah - 1) ++ ((al - 6) &&& 0x0F)) s t) ∧
      (adjust → s.cfg.bcdVariant = .laterEdition → RegistersWritten (.r16 .eax) ((ax - 6 - 0x100) &&& 0xFF0F) s t))

/-- AAD leaves AL = (AL + AH * imm8) modulo 2^8 and AH = 0; AAM with an immediate other than 0 leaves the quotient of AL
in AH and the remainder in AL. SF, ZF and PF follow AL, and CF, OF and AF may be anything. AAM with an immediate of 0
raises `#DE`. R172 marks that and the register of AAM's flags as general knowledge (log 35). The bytes are D5 and D4
with the immediate. A set NaT bit of EAX aborts in the Itanium System Environment and stops nothing in the IA-32 System
Environment: R362 and R403 say so, the opening of 40_bcd_adjust.md does not, and following them is the model's choice
(log 28). -/
def Obligations.AsciiAdjustForDivideAndMultiply : Prop :=
  (∀ (z : OpSize) (imm : Byte) (rest : List Byte),
    decode z (0xD5 :: imm :: rest) = .done (.aad imm) rest ∧ decode z (0xD4 :: imm :: rest) = .done (.aam imm) rest) ∧
  (∀ (s : State) (imm : Byte), s.itaniumSE = true → s.nat.eax = true → ∀ i ∈ [Instr.aad imm, .aam imm],
    exec i s = .fault (.itanium .natConsumption s.pc none)) ∧
  ∀ (s : State) (imm : Byte), Readable s [.eax] →
    let al : Byte := (s.reg32 .eax).extractLsb' 0 8
    let ah : Byte := (s.reg32 .eax).extractLsb' 8 8
    (∃ t, exec (.aad imm) s = .next t ∧ Completed 1 s t ∧ MemoryKept s t ∧
      let r : Byte := BitVec.ofNat 8 (al.toNat + ah.toNat * imm.toNat)
      RegistersWritten (.r16 .eax) ((0 : Byte) ++ r) s t ∧ ResultFlags t.status r) ∧
    (imm ≠ 0 → ∃ t, exec (.aam imm) s = .next t ∧ Completed 1 s t ∧ MemoryKept s t ∧
      let r : Byte := BitVec.ofNat 8 (al.toNat % imm.toNat)
      RegistersWritten (.r16 .eax) ((BitVec.ofNat 8 (al.toNat / imm.toNat) : Byte) ++ r) s t ∧
        ResultFlags t.status r) ∧
    (imm = 0 → exec (.aam imm) s = .fault (.exception .de none s.pc none))

/-- DAA and DAS (the latter for both values of `bcd_variant`, of which R175 marks the later one as general knowledge):
AL, CF and AF as the two steps of R174 and R175 leave them, SF, ZF and PF by the new AL, OF anything; EAX[31:8] and
everything else is as before. The bytes are 27 and 2F. A set NaT bit of EAX aborts in the Itanium System Environment and
stops nothing in the IA-32 System Environment: R362 and R403 say so, the opening of 40_bcd_adjust.md does not, and
following them is the model's choice (log 28). -/
def Obligations.DecimalAdjustAfterAddAndSubtract : Prop :=
  (∀ (z : OpSize) (rest : List Byte), decode z (0x27 :: rest) = .done .daa rest ∧ decode z (0x2F :: rest) = .done .das rest) ∧
  (∀ s : State, s.itaniumSE = true → s.nat.eax = true → ∀ i ∈ [Instr.daa, .das],
    exec i s = .fault (.itanium .natConsumption s.pc none)) ∧
  ∀ s : State, Readable s [.eax] →
    let al : Byte := (s.reg32 .eax).extractLsb' 0 8
    let cf := s.status.cf = true
    let low := 9 < al.toNat % 16 ∨ s.status.af = true
    (∃ t, exec .daa s = .next t ∧ Completed 1 s t ∧ MemoryKept s t ∧
      ∃ al1 al2 : Byte, (low → al1 = al + 6) ∧ (¬low → al1 = al) ∧
        let cf1 := cf ∨ (low ∧ 0xFF < al.toNat + 6)
        let high := 0x90 < (al1 &&& 0xF0).toNat ∨ cf1
        (high → al2 = al1 + 0x60) ∧ (¬high → al2 = al1) ∧ RegistersWritten (.r8 .al) al2 s t ∧
        (t.status.cf = true ↔ high) ∧ (t.status.af = true ↔ low) ∧ ResultFlags t.status al2) ∧
    (s.cfg.bcdVariant = .source → ∃ t, exec .das s = .next t ∧ Completed 1 s t ∧ MemoryKept s t ∧
      ∃ al1 al2 : Byte, (low → al1 = al - 6) ∧ (¬low → al1 = al) ∧
        let cf1 := cf ∨ (low ∧ al.toNat < 6)
        let high := 0x9F < al1.toNat ∨ cf1
        (high → al2 = al1 - 0x60) ∧ (¬high → al2 = al1) ∧ RegistersWritten (.r8 .al) al2 s t ∧
        (t.status.cf = true ↔ high) ∧ (t.status.af = true ↔ low) ∧ ResultFlags t.status al2) ∧
    (s.cfg.bcdVariant = .laterEdition → ∃ t, exec .das s = .next t ∧ Completed 1 s t ∧ MemoryKept s t ∧
      ∃ al1 al2 : Byte, (low → al1 = al - 6) ∧ (¬low → al1 = al) ∧
        let high := 0x99 < al.toNat ∨ cf
        (high → al2 = al1 - 0x60) ∧ (¬high → al2 = al1) ∧ RegistersWritten (.r8 .al) al2 s t ∧
        (t.status.cf = true ↔ high ∨ (low ∧ (cf ∨ al.toNat < 6))) ∧ (t.status.af = true ↔ low) ∧
        ResultFlags t.status al2)

/-! ## Protection, bounds, bits -/

/-- ARPL: outside protected mode `#UD`; in protected mode ZF says whether the RPL of the destination was below that of
the source, and only then the destination's RPL is raised to it; no other flag changes. That nothing is stored, and so
the record of stores kept, where the RPL is not raised is the spec's decision D36 (R221). That the old value of a memory
destination is read at the physical addresses which its write access gives, with no access of kind read, is the model's
choice (log 37). -/
def Obligations.ArplRaisesTheRequestedLevel : Prop :=
  ∀ (rm : RM) (r : Reg) (s : State),
    (s.protectedMode = false → exec (.arpl rm r) s = .fault (.exception .ud none s.pc none)) ∧
    (∀ addrs, s.protectedMode = true → Readable s (rm.place16.regs ++ [r]) →
      s.openPlace rm.place16 .write = .ok addrs →
      let d := s.peek rm.place16 addrs
      let v : Word := (s.reg32 r).extractLsb' 0 16
      ∃ t, exec (.arpl rm r) s = .next t ∧ Completed 0 s t ∧ t.status = { s.status with zf := t.status.zf } ∧
        (t.status.zf = true ↔ d.toNat % 4 < v.toNat % 4) ∧
        (d.toNat % 4 < v.toNat % 4 → Written rm.place16 addrs (d.extractLsb' 2 14 ++ v.extractLsb' 0 2) s t) ∧
        (¬d.toNat % 4 < v.toNat % 4 → t.regs = s.regs ∧ MemoryKept s t))

/-- BOUND: an index from the lower bound to the upper bound plus the slack of the configuration, as signed numbers
without wrap (the slack and the absence of a wrap are the spec's decision D14, R223), changes nothing; any other raises
`#BR`. -/
def Obligations.BoundChecksTheIndex : Prop :=
  ∀ (w : Nat) (index : Place w) (m : MemOp) (i : Instr) (s : State) (addrs : List Nat),
    BoundForm index m i → Readable s (index.regs ++ m.ea.regs) → s.memAccess m [w / 8, w / 8] .read = .ok addrs →
    let lower : BitVec w := s.load w (addrs.take (w / 8))
    let upper : BitVec w := s.load w (addrs.drop (w / 8))
    let slack : Int := if s.cfg.boundSlack = .operandBytes then (w / 8 : Nat) else 0
    let within := lower.toInt ≤ (s.peek index []).toInt ∧ (s.peek index []).toInt ≤ upper.toInt + slack
    (within → exec i s = .next { s with pc := s.nextPc }) ∧
    (¬within → exec i s = .fault (.exception .br none s.pc none))

/-- BSF and BSR: ZF says whether the source is 0; the destination becomes the index of the lowest (BSF) or highest (BSR)
set bit, or, with a source of 0, anything of its width; the other five status flags may be anything. -/
def Obligations.BitScanFindsTheBit : Prop :=
  ∀ (fwd : Bool) (w : Nat) (dst src : Place w) (i : Instr) (s : State) (addrs : List Nat),
    ScanForm fwd dst src i → Readable s src.regs → s.openPlace src .read = .ok addrs →
    let v := s.peek src addrs
    ∃ t, exec i s = .next t ∧ Completed 2 s t ∧ MemoryKept s t ∧ (t.status.zf = true ↔ v = 0) ∧
      (v ≠ 0 → ∃ k < w, v.getLsbD k = true ∧ RegistersWritten dst (BitVec.ofNat w k) s t ∧
        ∀ j < w, v.getLsbD j = true → if fwd = true then k ≤ j else j ≤ k) ∧
      (v = 0 → ∃ x, RegistersWritten dst x s t)

/-- BSWAP, `0F C8+rd`, with operand size 32 reverses the four bytes of the register and changes nothing else; with
operand size 16 the whole register may become anything (the spec's decision D31), and nothing else changes; in the
Itanium System Environment a set NaT bit of the register aborts. -/
def Obligations.BswapReversesTheBytes : Prop :=
  (∀ (z : OpSize) (rest : List Byte),
    decode z (0x0F :: 0xC8 :: rest) = .done (.bswap z .eax) rest ∧ decode z (0x0F :: 0xC9 :: rest) = .done (.bswap z .ecx) rest ∧
    decode z (0x0F :: 0xCA :: rest) = .done (.bswap z .edx) rest ∧ decode z (0x0F :: 0xCB :: rest) = .done (.bswap z .ebx) rest ∧
    decode z (0x0F :: 0xCC :: rest) = .done (.bswap z .esp) rest ∧ decode z (0x0F :: 0xCD :: rest) = .done (.bswap z .ebp) rest ∧
    decode z (0x0F :: 0xCE :: rest) = .done (.bswap z .esi) rest ∧
    decode z (0x0F :: 0xCF :: rest) = .done (.bswap z .edi) rest) ∧
  (∀ (z : OpSize) (r : Reg) (s : State), s.itaniumSE = true → s.nat.get r = true →
    exec (.bswap z r) s = .fault (.itanium .natConsumption s.pc none)) ∧
  ∀ (r : Reg) (s : State), Readable s [r] →
    (∃ t, exec (.bswap .s32 r) s = .next t ∧ Completed 0 s t ∧ MemoryKept s t ∧ OthersKept r s t ∧
      t.status = s.status ∧ ∀ k < 4, (t.reg32 r).extractLsb' (8 * k) 8 = (s.reg32 r).extractLsb' (24 - 8 * k) 8) ∧
    (∃ t, exec (.bswap .s16 r) s = .next t ∧ Completed 1 s t ∧ MemoryKept s t ∧ OthersKept r s t ∧
      t.status = s.status)

/-- BT, BTC, BTR and BTS with a register base: CF becomes the bit at the offset modulo the operand size; BTC complements
it, BTR clears it, BTS sets it, BT leaves it; no other bit of any register and no memory changes. The other five status
flags may be anything (log 36). -/
def Obligations.BitTestOfARegister : Prop :=
  ∀ (op : BitOp) (lock : Bool) (w : Nat) (base : Place w) (off : Operand w) (i : Instr) (s : State),
    BitForm op lock base off i → (∀ m, base ≠ .mem m) → Readable s (base.regs ++ off.regs) →
    let v := s.peek base []
    let k := (s.operand off []).toNat % w
    ∃ t, exec i s = .next t ∧ Completed 1 s t ∧ MemoryKept s t ∧ t.status.cf = v.getLsbD k ∧
      ∃ v', BitReplaced k (bitAfter op (v.getLsbD k)) v v' ∧ RegistersWritten base v' s t

/-- BT, BTC, BTR and BTS with a memory base, for either width of the access: with `o` the signed bit offset, the access
is to the byte at the effective address plus `o` divided by 8, or to the operand-sized item at it plus the item's size
times `o` divided by the operand size, both rounding down; CF becomes the bit; BTC complements it, BTR clears it, BTS
sets it; BT stores nothing. The other five status flags may be anything, ZF among them (log 36). That the old value of
BTC, BTR and BTS is read at the physical addresses which its write access gives, with no access of kind read, is the
model's choice (log 37). -/
def Obligations.BitTestOfMemory : Prop :=
  ∀ (op : BitOp) (lock : Bool) (w : Nat) (m : MemOp) (off : Operand w) (i : Instr) (s : State) (addrs : List Nat),
    BitForm op lock (.mem m : Place w) off i → Readable s (m.ea.regs ++ off.regs) →
    let o := (s.operand off []).toInt
    let unit : Nat := if s.bitWide then w else 8
    let site := m.ea.addrSize.wrap (s.offset m.ea + BitVec.ofInt 32 ((unit / 8 : Nat) * (o / (unit : Int))))
    s.checkBitLock op lock m site (unit / 8) = .ok () →
    s.segAccess m.seg m.ea.addrSize site [unit / 8] op.kind = .ok addrs →
    let v : BitVec w := s.load w addrs
    let k := (o % (unit : Int)).toNat
    ∃ t, exec i s = .next t ∧ Completed 1 s t ∧ t.regs = s.regs ∧ t.status.cf = v.getLsbD k ∧
      (op = .bt → MemoryKept s t) ∧
      (op ≠ .bt → ∃ v', BitReplaced k (bitAfter op (v.getLsbD k)) v v' ∧ StoredAt addrs v' s t)

/-- Both accesses that 43_bit_scan_test.md R238 allows name the same bit of the same byte. -/
def Obligations.BothBitAccessesNameOneBit : Prop :=
  ∀ (w : Nat) (a : OpSize) (ea : DWord) (o : Int), w = 16 ∨ w = 32 →
    let wide := bitSite w true a ea o
    let narrow := bitSite w false a ea o
    narrow.bytes = 1 ∧ wide.bytes = w / 8 ∧ narrow.bit < 8 ∧ wide.bit < w ∧ wide.bit % 8 = narrow.bit ∧
    narrow.off = a.wrap (wide.off + BitVec.ofNat 32 (wide.bit / 8))

/-! ## CALL -/

/-- A near CALL with its target within the limit of CS and room on the stack: the offset after the instruction is pushed
with the operand size and EIP becomes the target; no flag and no other register changes. -/
def Obligations.NearCallPushesTheReturnOffset : Prop :=
  ∀ (s : State) (n : OpSize) (target : DWord) (regs : List Reg) (i : Instr) (addrs : List Nat),
    NearCall s n target regs i → Readable s regs → target.toNat ≤ s.segs.cs.limit.toNat →
    s.segAccess .ss s.stackSize (below s n.bytes (stackTop s)) [n.bytes] .write = .ok addrs → NoBranchTrap s →
    ∃ t, exec i s = .next t ∧ SameElse s t ∧ t.status = s.status ∧ t.draws = s.draws ∧ t.pc = target ∧
      StackMoved (below s n.bytes (stackTop s)) s t ∧ StoredAt addrs s.nextPc s t

/-- A near CALL checks its target first, `#GP(0)`, then the room on the stack, `#SS(0)`, then makes the access of its push,
whose fault is the instruction's. -/
def Obligations.NearCallChecksTargetThenStack : Prop :=
  ∀ (s : State) (n : OpSize) (target : DWord) (regs : List Reg) (i : Instr),
    NearCall s n target regs i → Readable s regs →
    (s.segs.cs.limit.toNat < target.toNat →
      exec i s = .fault (.exception .gp (if s.realMode then none else some 0) s.pc none)) ∧
    (target.toNat ≤ s.segs.cs.limit.toNat → ¬Within s.segs.ss (below s n.bytes (stackTop s)) n.bytes →
      exec i s = .fault (.exception .ss (if s.realMode then none else some 0) s.pc none)) ∧
    ∀ f, target.toNat ≤ s.segs.cs.limit.toNat →
      s.segAccess .ss s.stackSize (below s n.bytes (stackTop s)) [n.bytes] .write = .error (.fault f) →
      exec i s = .fault f

/-- A far CALL in real-address or virtual-8086 mode: without room for both pushes it raises `#SS(0)`, then for an offset
above FFFFH `#GP(0)` (`#SS` and `#GP` in real-address mode), then what its pushes raise. Else CS and the offset after the
instruction are pushed, CS becomes the selector with base sixteen times it and limit FFFFH, and EIP the offset; the other
parts of CS stay (log 24). That the offset is held to the limit the new CS will have, FFFFH, whatever limit CS has now, is
the spec's decision D24, and that the room is asked of each push at its own wrapped offset is the model's (log 33). -/
def Obligations.FarCallOutsideProtectedMode : Prop :=
  ∀ (s : State) (n : OpSize) (sel : Word) (off : DWord) (regs : List Reg) (i : Instr),
    FarCall s n sel off regs i → s.protectedMode = false → Readable s regs →
    let code : Option Word := if s.realMode = true then none else some 0
    (¬FarWithin n s → exec i s = .fault (.exception .ss code s.pc none)) ∧
    (FarWithin n s → 0xFFFF < off.toNat → exec i s = .fault (.exception .gp code s.pc none)) ∧
    (FarWithin n s → off.toNat ≤ 0xFFFF → ∀ f, FarPushFaults n f s → exec i s = .fault f) ∧
    ∀ cs ip : List Nat, FarRoom n cs ip s → off.toNat ≤ 0xFFFF → NoBranchTrap s →
      ∃ t, exec i s = .next t ∧ FarReturnPushed n cs ip s t ∧
        t = { s with
          regs := t.regs, pc := off, mem := t.mem, stored := t.stored, draws := s.draws + 1,
          segs := { s.segs with
            cs := { s.segs.cs with selector := sel, base := BitVec.ofNat 32 (sel.toNat * 16), limit := 0xFFFF } } }

/-- A far CALL in protected mode to a present code segment that the privilege rules allow: without room for both pushes it
raises `#SS(0)`, then for an offset beyond the limit of the new segment `#GP(0)`, then what its pushes raise. Else CS and
the offset after the instruction are pushed, CS is loaded from the descriptor with CPL as its RPL, EIP becomes the offset,
and CPL stays. That no byte but those of the pushes changes, so that no accessed bit is written to the descriptor, is the
spec's decision D24 (R258), which the model follows (log 22), and that the room is asked of each push at its own wrapped
offset is the model's (log 33). -/
def Obligations.FarCallToACodeSegment : Prop :=
  ∀ (s : State) (n : OpSize) (sel : Word) (off : DWord) (regs : List Reg) (i : Instr) (d : QWord),
    FarCall s n sel off regs i → s.protectedMode = true → Readable s regs → sel.extractLsb' 2 14 ≠ 0 →
    s.inTable sel = true → s.readDescriptor sel = .ok d → d.getLsbD 44 = true → d.getLsbD 43 = true →
    (if d.getLsbD 42 = true then (d.extractLsb' 45 2).toNat ≤ s.cpl.toNat
      else (sel.extractLsb' 0 2).toNat ≤ s.cpl.toNat ∧ d.extractLsb' 45 2 = s.cpl) →
    d.getLsbD 47 = true →
    (¬FarWithin n s → exec i s = selectorFault s .ss 0) ∧
    (FarWithin n s → limitOf d < off.toNat → exec i s = selectorFault s .gp 0) ∧
    (FarWithin n s → off.toNat ≤ limitOf d → ∀ f, FarPushFaults n f s → exec i s = .fault f) ∧
    ∀ cs ip : List Nat, FarRoom n cs ip s → off.toNat ≤ limitOf d → NoBranchTrap s →
      ∃ t, exec i s = .next t ∧ FarReturnPushed n cs ip s t ∧
        t = { s with
          regs := t.regs, pc := off, mem := t.mem, stored := t.stored, draws := s.draws + 1,
          segs := { s.segs with cs := t.segs.cs } } ∧
        t.segs.cs.selector = sel.extractLsb' 2 14 ++ s.cpl ∧ Describes d t.segs.cs

/-- A far CALL through a call gate to a code segment of the same privilege level, in the IA-32 System Environment: the
pushes have the gate's size, and CS and EIP come from the gate, not from the instruction. That no byte but those of the
pushes changes, so that no accessed bit is written to a descriptor, is the spec's decision D24 (R258), which the model
follows (log 22). -/
def Obligations.CallGateWithoutPrivilegeChange : Prop :=
  ∀ (s : State) (n g : OpSize) (sel : Word) (off : DWord) (regs : List Reg) (i : Instr) (cs ip : List Nat)
    (gate c : QWord),
    FarCall s n sel off regs i → s.protectedMode = true → s.itaniumSE = false → sel.extractLsb' 2 14 ≠ 0 →
    s.inTable sel = true → s.readDescriptor sel = .ok gate → gate.getLsbD 44 = false →
    gate.extractLsb' 40 4 = (match g with | .s16 => 4 | .s32 => 12) → gate.getLsbD 47 = true →
    s.cpl.toNat ≤ (gate.extractLsb' 45 2).toNat → (sel.extractLsb' 0 2).toNat ≤ (gate.extractLsb' 45 2).toNat →
    let csel : Word := gate.extractLsb' 16 16
    let target : DWord :=
      match g with
      | .s16 => (gate.extractLsb' 0 16).setWidth 32
      | .s32 => gate.extractLsb' 48 16 ++ gate.extractLsb' 0 16
    csel.extractLsb' 2 14 ≠ 0 → s.inTable csel = true → s.readDescriptor csel = .ok c → c.getLsbD 44 = true →
    c.getLsbD 43 = true → c.getLsbD 47 = true →
    (c.extractLsb' 45 2 = s.cpl ∨ (c.getLsbD 42 = true ∧ (c.extractLsb' 45 2).toNat ≤ s.cpl.toNat)) →
    FarRoom g cs ip s → target.toNat ≤ limitOf c →
    ∃ t, exec i s = .next t ∧ FarReturnPushed g cs ip s t ∧
      t = { s with
        regs := t.regs, pc := target, mem := t.mem, stored := t.stored, draws := s.draws + 1,
        segs := { s.segs with cs := t.segs.cs } } ∧
      t.segs.cs.selector = csel.extractLsb' 2 14 ++ s.cpl ∧ Describes c t.segs.cs

/-- A far CALL through a call gate to a more privileged nonconforming code segment, in the IA-32 System Environment: the
stack is the one the TSS holds for that level, the old SS:ESP, the parameters and the return address are pushed on it,
items of the gate's size downward from the new ESP, or SP where B of the new SS is 0, and CPL becomes the level of the
target. Nothing else changes. Which checks the pushes to the new stack make (limit, then alignment at the caller's CPL
and translation) is the model's choice (log 22), and so is that the parameters are read before them (log 38); that no
accessed bit is written is the spec's decision D24. The parameters are as many items of the gate's size as bits 4:0 of
byte 4 of the gate count, from the old stack pointer up, in that order; that they are one access is the model's choice
(log 40). -/
def Obligations.CallGateToMorePrivilege : Prop :=
  (∀ (s : State) (g : OpSize) (i : Instr) (gate c : QWord) (stack : NewStack) (ss : Segment) (params : List DWord)
    (addrs : List (List Nat)),
    ReachesGate s [match g with | .s16 => 4 | .s32 => 12] gate i →
    let csel : Word := gate.extractLsb' 16 16
    let level : BitVec 2 := c.extractLsb' 45 2
    csel.extractLsb' 2 14 ≠ 0 → s.inTable csel = true → s.readDescriptor csel = .ok c → c.getLsbD 44 = true →
    c.getLsbD 43 = true → c.getLsbD 42 = false → c.getLsbD 47 = true → level.toNat < s.cpl.toNat →
    s.readTssStack level = .ok stack → s.openNewStack level stack.sel = .ok ss →
    let slots := newSlots ss stack.esp g.bytes (gateParameters gate + 4)
    (∀ x ∈ slots, Within ss x g.bytes) → (gateTargetOffset g gate).toNat ≤ limitOf c →
    s.readParameters g (gateParameters gate) = .ok params → NewStackOpens s ss g.bytes slots addrs →
    ∃ t, exec i s = .next t ∧ t.segs.cs.selector = csel.extractLsb' 2 14 ++ level ∧ Describes c t.segs.cs ∧
      (∃ last, slots.getLast? = some last ∧ t.reg32 .esp =
        if ss.big = true then last else stack.esp.extractLsb' 16 16 ++ last.extractLsb' 0 16) ∧ OthersKept .esp s t ∧
      t = { s with
        regs := t.regs, pc := gateTargetOffset g gate, cpl := level, mem := t.mem, stored := t.stored,
        draws := s.draws + 2, segs := { s.segs with ss := ss, cs := t.segs.cs } } ∧
      (∃ pad pad' : Word, t.mem =
        ((addrs.zip ([pad ++ s.segs.ss.selector, s.regs.esp] ++ params.reverse ++
          [pad' ++ s.segs.cs.selector, s.nextPc])).foldl (fun u push => u.store push.1 push.2) s).mem) ∧
      MemorySameOutside addrs.flatten s t ∧ ∀ a, a ∈ t.stored ↔ a ∈ addrs.flatten ∨ a ∈ s.stored) ∧
  ∀ (s : State) (g : OpSize) (count : Nat) (params : List DWord),
    s.readParameters g count = .ok params ↔ params.length = count ∧
      (0 < count → ∃ from_, s.segAccess .ss s.stackSize (stackTop s) (List.replicate count g.bytes) .read = .ok from_ ∧
        ∀ k < count, params[k]? =
          some ((s.load (8 * g.bytes) ((from_.drop (k * g.bytes)).take g.bytes)).setWidth 32))

/-- In the Itanium System Environment a far CALL whose selector names a call gate, a task gate or an available TSS in
the GDT, and passes the privilege and present tests, ends in the gate intercept and changes nothing. That a task gate
and a TSS descriptor have P, DPL, S and the type in byte 5 is presumed (log 39), beside the layout of R258, which the
spec marks as general knowledge (log 35). -/
def Obligations.GatesAreIntercepted : Prop :=
  ∀ (s : State) (n : OpSize) (sel : Word) (off : DWord) (regs : List Reg) (i : Instr) (d : QWord),
    FarCall s n sel off regs i → s.protectedMode = true → s.itaniumSE = true → Readable s regs →
    sel.extractLsb' 2 14 ≠ 0 → s.inTable sel = true → s.readDescriptor sel = .ok d → d.getLsbD 44 = false →
    ((d.extractLsb' 40 4).toNat ∈ [4, 5, 12] ∨ ((d.extractLsb' 40 4).toNat ∈ [1, 9] ∧ sel.getLsbD 2 = false)) →
    s.cpl.toNat ≤ (d.extractLsb' 45 2).toNat → (sel.extractLsb' 0 2).toNat ≤ (d.extractLsb' 45 2).toNat →
    d.getLsbD 47 = true → exec i s = .fault (.intercept .gateCall s.pc)

/-- What a far CALL in protected mode raises for its selector, in both environments: `#GP(0)` for a null one;
`#GP(selector)` for one beyond its table, for a data segment or another system descriptor, for a code segment the
privilege rules deny, for a gate or a TSS less privileged than CPL or RPL ask, and for a TSS that is busy or in the LDT;
`#NP(selector)` for a code segment, gate or TSS that passes those tests and is not present. The error code is the
selector with bits 1:0 clear. The table is the LDT where bit 2 of the selector is set, else the GDT; a descriptor is
within it when its last byte, index * 8 + 7, is within the limit, and is the eight bytes at its base plus index * 8,
little-endian, translated as reads one by one, as every system structure is; the fault of the first byte that has none
is the instruction's. That the system reads make no other check, and that an LDT which is not present holds nothing, is
the model's choice (log 22); that a task gate and a TSS descriptor have P, DPL, S and the type in byte 5 is presumed
(log 39), beside the layout of R258, which the spec marks as general knowledge (log 35). -/
def Obligations.FarCallChecksTheSelector : Prop :=
  (∀ (s : State) (w n : Nat) (la : DWord), w = 8 * n →
    (∀ v : BitVec w, s.systemRead w la n = .ok v ↔ ∀ k < n, ∃ a,
      s.translate .read (la + BitVec.ofNat 32 k) = .ok a ∧ v.extractLsb' (8 * k) 8 = Memory.read s.mem a) ∧
    ∀ k < n, (∀ j < k, ∃ a, s.translate .read (la + BitVec.ofNat 32 j) = .ok a) →
      ∀ e, s.translate .read (la + BitVec.ofNat 32 k) = .error e → s.systemRead w la n = .error e) ∧
  (∀ (s : State) (sel : Word),
    let at_ := sel.toNat / 8 * 8
    let table : DWord × Nat :=
      if sel.getLsbD 2 = true then (s.ldtr.base, s.ldtr.limit.toNat) else (s.gdtr.base, s.gdtr.limit.toNat)
    (s.inTable sel = true ↔ at_ + 7 ≤ table.2 ∧ (sel.getLsbD 2 = true → s.ldtr.present = true)) ∧
    s.readDescriptor sel = s.systemRead 64 (table.1 + BitVec.ofNat 32 at_) 8) ∧
  ∀ (s : State) (n : OpSize) (sel : Word) (off : DWord) (regs : List Reg) (i : Instr),
    FarCall s n sel off regs i → s.protectedMode = true → Readable s regs →
    let refuse := fun e : Exception => selectorFault s e sel
    (sel.extractLsb' 2 14 = 0 → exec i s = .fault (.exception .gp (some 0) s.pc none)) ∧
    (sel.extractLsb' 2 14 ≠ 0 → s.inTable sel = false → exec i s = refuse .gp) ∧
    (∀ f, sel.extractLsb' 2 14 ≠ 0 → s.inTable sel = true → s.readDescriptor sel = .error (.fault f) →
      exec i s = .fault f) ∧
    (∀ d, sel.extractLsb' 2 14 ≠ 0 → s.inTable sel = true → s.readDescriptor sel = .ok d →
      (d.getLsbD 44 = true → d.getLsbD 43 = false → exec i s = refuse .gp) ∧
      (d.getLsbD 44 = false → (d.extractLsb' 40 4).toNat ∉ [1, 3, 4, 5, 9, 11, 12] → exec i s = refuse .gp) ∧
      (d.getLsbD 44 = true → d.getLsbD 43 = true →
        (d.getLsbD 42 = true ∧ s.cpl.toNat < (d.extractLsb' 45 2).toNat ∨
          d.getLsbD 42 = false ∧ (s.cpl.toNat < (sel.extractLsb' 0 2).toNat ∨ d.extractLsb' 45 2 ≠ s.cpl)) →
        exec i s = refuse .gp) ∧
      (d.getLsbD 44 = true → d.getLsbD 43 = true → d.getLsbD 47 = false →
        (d.getLsbD 42 = true ∧ (d.extractLsb' 45 2).toNat ≤ s.cpl.toNat ∨
          d.getLsbD 42 = false ∧ (sel.extractLsb' 0 2).toNat ≤ s.cpl.toNat ∧ d.extractLsb' 45 2 = s.cpl) →
        exec i s = refuse .np) ∧
      (d.getLsbD 44 = false → (d.extractLsb' 40 4).toNat ∈ [1, 3, 4, 5, 9, 11, 12] →
        (d.extractLsb' 45 2).toNat < s.cpl.toNat ∨ (d.extractLsb' 45 2).toNat < (sel.extractLsb' 0 2).toNat →
        exec i s = refuse .gp) ∧
      (d.getLsbD 44 = false →
        (d.extractLsb' 40 4).toNat ∈ [3, 11] ∨ (d.extractLsb' 40 4).toNat ∈ [1, 9] ∧ sel.getLsbD 2 = true →
        exec i s = refuse .gp) ∧
      (d.getLsbD 44 = false →
        (d.extractLsb' 40 4).toNat ∈ [4, 5, 12] ∨ (d.extractLsb' 40 4).toNat ∈ [1, 9] ∧ sel.getLsbD 2 = false →
        s.cpl.toNat ≤ (d.extractLsb' 45 2).toNat → (sel.extractLsb' 0 2).toNat ≤ (d.extractLsb' 45 2).toNat →
        d.getLsbD 47 = false → exec i s = refuse .np))

/-- In the IA-32 System Environment a far CALL to an available TSS in the GDT that passes its tests is refused by name:
no source defines the task switch. Through a task gate that passes its tests the TSS selector of the gate is checked:
`#GP` with it where it names the LDT, lies beyond the GDT or names no available TSS, `#NP` with it where the TSS is not
present; else the same refusal. That a descriptor which is no TSS fails as a busy one does is the model's reading of
R266 (log 23). That a task gate has its TSS selector in bytes 2 and 3, and that it and a TSS descriptor have P, DPL, S
and the type in byte 5, is presumed (log 39). -/
def Obligations.TaskSwitchIsRefused : Prop :=
  (∀ (s : State) (n : OpSize) (sel : Word) (off : DWord) (regs : List Reg) (i : Instr) (d : QWord),
    FarCall s n sel off regs i → s.protectedMode = true → s.itaniumSE = false → sel.extractLsb' 2 14 ≠ 0 →
    sel.getLsbD 2 = false → s.inTable sel = true → s.readDescriptor sel = .ok d → d.getLsbD 44 = false →
    (d.extractLsb' 40 4).toNat ∈ [1, 9] → s.cpl.toNat ≤ (d.extractLsb' 45 2).toNat →
    (sel.extractLsb' 0 2).toNat ≤ (d.extractLsb' 45 2).toNat → d.getLsbD 47 = true →
    exec i s = .refused .taskSwitch) ∧
  ∀ (s : State) (gate : QWord) (i : Instr), ReachesGate s [5] gate i →
    let tsel : Word := gate.extractLsb' 16 16
    (tsel.getLsbD 2 = true ∨ s.inTable tsel = false → exec i s = selectorFault s .gp tsel) ∧
    ∀ t, tsel.getLsbD 2 = false → s.inTable tsel = true → s.readDescriptor tsel = .ok t →
      (t.getLsbD 44 = true ∨ (t.extractLsb' 40 4).toNat ∉ [1, 9] → exec i s = selectorFault s .gp tsel) ∧
      (t.getLsbD 44 = false → (t.extractLsb' 40 4).toNat ∈ [1, 9] →
        exec i s = if t.getLsbD 47 = true then .refused .taskSwitch else selectorFault s .np tsel)

/-- What a far CALL through a call gate raises, in the IA-32 System Environment, when a check of its target or of its
stack fails. The target: `#GP(0)` for a null selector, `#GP` with it beyond its table or for no code segment or one less
privileged than CPL, `#NP` with it where the segment is not present. At the same level: `#SS(0)` without room for the
return address, then `#GP(0)` for an offset beyond the segment, then what the pushes raise. To more privilege: `#TS`
with the selector of TR where the TSS ends before the stack's fields; `#TS` with the new SS where it is null, beyond its
table, of another RPL or DPL or no writable data segment; `#SS` with it where it is not present or has no room for the
pushes, 4 items of the gate's size and as many as the gate counts; then `#GP(0)`; then what reading the parameters
raises. When those of the stack pass, it is the one that the TSS holds, in either format, with what its descriptor says,
an expand-down one with the upper bound that its B bit gives. That the room is asked of each push is the model's (log
33), and so is the order of the parameters' accesses (log 38). -/
def Obligations.CallGateChecksTargetAndStack : Prop :=
  (∀ (s : State) (g : OpSize) (gate : QWord) (i : Instr),
    ReachesGate s [match g with | .s16 => 4 | .s32 => 12] gate i →
    let csel : Word := gate.extractLsb' 16 16
    let beyond := fun c : QWord => limitOf c < (gateTargetOffset g gate).toNat
    (csel.extractLsb' 2 14 = 0 → exec i s = selectorFault s .gp 0) ∧
    (csel.extractLsb' 2 14 ≠ 0 → s.inTable csel = false → exec i s = selectorFault s .gp csel) ∧
    ∀ c, csel.extractLsb' 2 14 ≠ 0 → s.inTable csel = true → s.readDescriptor csel = .ok c →
      let level : BitVec 2 := c.extractLsb' 45 2
      let code := c.getLsbD 44 = true ∧ c.getLsbD 43 = true ∧ level.toNat ≤ s.cpl.toNat
      let inner := c.getLsbD 42 = false ∧ level.toNat < s.cpl.toNat
      (¬code → exec i s = selectorFault s .gp csel) ∧
      (code → c.getLsbD 47 = false → exec i s = selectorFault s .np csel) ∧
      (code → c.getLsbD 47 = true → ¬inner → ¬FarWithin g s → exec i s = selectorFault s .ss 0) ∧
      (code → c.getLsbD 47 = true → ¬inner → FarWithin g s → beyond c → exec i s = selectorFault s .gp 0) ∧
      (code → c.getLsbD 47 = true → ¬inner → FarWithin g s → ¬beyond c → ∀ f, FarPushFaults g f s →
        exec i s = .fault f) ∧
      (code → c.getLsbD 47 = true → inner →
        (s.tr.limit.toNat < (if s.tr.is32 then level.toNat * 8 + 11 else level.toNat * 4 + 6) →
          exec i s = selectorFault s .ts s.tr.selector) ∧
        ∀ stack, s.readTssStack level = .ok stack →
          (stack.sel.extractLsb' 2 14 = 0 ∨ s.inTable stack.sel = false → exec i s = selectorFault s .ts stack.sel) ∧
          ∀ d, stack.sel.extractLsb' 2 14 ≠ 0 → s.inTable stack.sel = true → s.readDescriptor stack.sel = .ok d →
            let fits := stack.sel.extractLsb' 0 2 = level ∧ d.extractLsb' 45 2 = level ∧ d.getLsbD 44 = true ∧
              d.getLsbD 43 = false ∧ d.getLsbD 41 = true
            (¬fits → exec i s = selectorFault s .ts stack.sel) ∧
            (fits → d.getLsbD 47 = false → exec i s = selectorFault s .ss stack.sel) ∧
            ∀ ss, Describes d ss →
              let room := ∀ x ∈ newSlots ss stack.esp g.bytes (gateParameters gate + 4), Within ss x g.bytes
              (fits → d.getLsbD 47 = true → ¬room → exec i s = selectorFault s .ss stack.sel) ∧
              (fits → d.getLsbD 47 = true → room → beyond c → exec i s = selectorFault s .gp 0) ∧
              (fits → d.getLsbD 47 = true → room → ¬beyond c → ∀ f,
                s.readParameters g (gateParameters gate) = .error (.fault f) → exec i s = .fault f))) ∧
  ∀ (s : State) (level : BitVec 2) (sel : Word),
    (∀ esp : DWord, s.tr.is32 = true → level.toNat * 8 + 11 ≤ s.tr.limit.toNat →
      s.systemRead 32 (s.tr.base + BitVec.ofNat 32 (level.toNat * 8 + 4)) 4 = .ok esp →
      s.systemRead 16 (s.tr.base + BitVec.ofNat 32 (level.toNat * 8 + 8)) 2 = .ok sel →
      s.readTssStack level = .ok { sel := sel, esp := esp }) ∧
    (∀ sp : Word, s.tr.is32 = false → level.toNat * 4 + 6 ≤ s.tr.limit.toNat →
      s.systemRead 16 (s.tr.base + BitVec.ofNat 32 (level.toNat * 4 + 2)) 2 = .ok sp →
      s.systemRead 16 (s.tr.base + BitVec.ofNat 32 (level.toNat * 4 + 4)) 2 = .ok sel →
      s.readTssStack level = .ok { sel := sel, esp := sp.setWidth 32 }) ∧
    ∀ d, sel.extractLsb' 2 14 ≠ 0 → s.inTable sel = true → s.readDescriptor sel = .ok d →
      sel.extractLsb' 0 2 = level → d.extractLsb' 45 2 = level → d.getLsbD 44 = true → d.getLsbD 43 = false →
      d.getLsbD 41 = true → d.getLsbD 47 = true →
      ∃ ss, s.openNewStack level sel = .ok ss ∧ ss.selector = sel ∧ Describes d ss

/-- The taken-branch trap: without PSR.tb, and outside the Itanium System Environment, no instruction ends in it, and no
instruction but a near or far CALL ever does; in the Itanium System Environment with PSR.tb set, a near CALL that
completes, a far CALL that completes outside protected mode and a far CALL to a code segment that completes end in the
trap, which carries the state after the call. That outside protected mode the offset is held to FFFFH, whatever limit CS
has, and that no accessed bit is written to a descriptor, is the spec's decision D24 (logs 22 and 24). -/
def Obligations.TakenBranchTrapCarriesTheCall : Prop :=
  (∀ (s t : State) (i : Instr), s.itaniumSE = false ∨ s.psr.tb = false → exec i s ≠ .fault (.debugTrap t)) ∧
  (∀ (s t : State) (i : Instr), exec i s = .fault (.debugTrap t) →
    (∃ n target regs, NearCall s n target regs i) ∨ ∃ n sel off regs, FarCall s n sel off regs i) ∧
  ∀ s : State, s.itaniumSE = true → s.psr.tb = true →
    (∀ (n : OpSize) (target : DWord) (regs : List Reg) (i : Instr) (addrs : List Nat),
      NearCall s n target regs i → Readable s regs → target.toNat ≤ s.segs.cs.limit.toNat →
      s.segAccess .ss s.stackSize (below s n.bytes (stackTop s)) [n.bytes] .write = .ok addrs →
      ∃ t, exec i s = .fault (.debugTrap t) ∧ SameElse s t ∧ t.status = s.status ∧ t.pc = target ∧
        StackMoved (below s n.bytes (stackTop s)) s t ∧ StoredAt addrs s.nextPc s t) ∧
    (∀ (n : OpSize) (sel : Word) (off : DWord) (regs : List Reg) (i : Instr) (cs ip : List Nat),
      FarCall s n sel off regs i → s.protectedMode = false → Readable s regs → FarRoom n cs ip s →
      off.toNat ≤ 0xFFFF →
      ∃ t, exec i s = .fault (.debugTrap t) ∧ FarReturnPushed n cs ip s t ∧ t.pc = off ∧ t.segs.cs.selector = sel) ∧
    (∀ (n : OpSize) (sel : Word) (off : DWord) (regs : List Reg) (i : Instr) (cs ip : List Nat) (d : QWord),
      FarCall s n sel off regs i → s.protectedMode = true → Readable s regs → sel.extractLsb' 2 14 ≠ 0 →
      s.inTable sel = true → s.readDescriptor sel = .ok d → d.getLsbD 44 = true → d.getLsbD 43 = true →
      (if d.getLsbD 42 = true then (d.extractLsb' 45 2).toNat ≤ s.cpl.toNat
        else (sel.extractLsb' 0 2).toNat ≤ s.cpl.toNat ∧ d.extractLsb' 45 2 = s.cpl) →
      d.getLsbD 47 = true → FarRoom n cs ip s → off.toNat ≤ limitOf d →
      ∃ t, exec i s = .fault (.debugTrap t) ∧ FarReturnPushed n cs ip s t ∧ t.pc = off ∧
        t.segs.cs.selector = sel.extractLsb' 2 14 ++ s.cpl)

/-! ## Converts, flags and system instructions -/

/-- CBW and CWDE, byte 98, and CWD and CDQ, byte 99, by the operand size, copy the sign of AL, AX, AX and EAX into AH,
EAX[31:16], DX and EDX; no flag and nothing else changes; in the Itanium System Environment a set NaT bit of EAX aborts.
-/
def Obligations.ConvertsCopyTheSign : Prop :=
  (∀ rest : List Byte,
    decode .s16 (0x98 :: rest) = .done .cbw rest ∧ decode .s32 (0x66 :: 0x98 :: rest) = .done .cbw rest ∧
    decode .s32 (0x98 :: rest) = .done .cwde rest ∧ decode .s16 (0x66 :: 0x98 :: rest) = .done .cwde rest ∧
    decode .s16 (0x99 :: rest) = .done .cwd rest ∧ decode .s32 (0x66 :: 0x99 :: rest) = .done .cwd rest ∧
    decode .s32 (0x99 :: rest) = .done .cdq rest ∧ decode .s16 (0x66 :: 0x99 :: rest) = .done .cdq rest) ∧
  (∀ s : State, s.itaniumSE = true → s.nat.eax = true → ∀ i ∈ [Instr.cbw, .cwde, .cwd, .cdq],
    exec i s = .fault (.itanium .natConsumption s.pc none)) ∧
  ∀ s : State, Readable s [.eax] →
    let eax := s.reg32 .eax
    (∃ t, exec .cbw s = .next t ∧ Completed 0 s t ∧ MemoryKept s t ∧ t.status = s.status ∧
      RegistersWritten (.r16 .eax) ((if eax.getLsbD 7 then (0xFF : Byte) else 0) ++ eax.extractLsb' 0 8) s t) ∧
    (∃ t, exec .cwde s = .next t ∧ Completed 0 s t ∧ MemoryKept s t ∧ t.status = s.status ∧
      RegistersWritten (.r32 .eax) ((if eax.getLsbD 15 then (0xFFFF : Word) else 0) ++ eax.extractLsb' 0 16) s t) ∧
    (∃ t, exec .cwd s = .next t ∧ Completed 0 s t ∧ MemoryKept s t ∧ t.status = s.status ∧
      RegistersWritten (.r16 .edx) (if eax.getLsbD 15 then 0xFFFF else 0) s t) ∧
    (∃ t, exec .cdq s = .next t ∧ Completed 0 s t ∧ MemoryKept s t ∧ t.status = s.status ∧
      RegistersWritten (.r32 .edx) (if eax.getLsbD 31 then 0xFFFFFFFF else 0) s t)

/-- CLC, byte F8, clears CF; CMC, byte F5, complements CF; CLD, byte FC, clears DF: in every mode and environment,
whatever the NaT bits are, and nothing else changes. -/
def Obligations.CarryAndDirectionInstructions : Prop :=
  ∀ (z : OpSize) (rest : List Byte) (s : State),
    decode z (0xF8 :: rest) = .done .clc rest ∧ decode z (0xF5 :: rest) = .done .cmc rest ∧
    decode z (0xFC :: rest) = .done .cld rest ∧
    exec .clc s = .next { s with status := { s.status with cf := false }, pc := s.nextPc } ∧
    exec .cmc s = .next { s with status := { s.status with cf := !s.status.cf }, pc := s.nextPc } ∧
    exec .cld s = .next { s with flags := { s.flags with df := false }, pc := s.nextPc }

/-- CLI: IF is cleared in real-address mode, in protected mode with CPL at most IOPL, and in virtual-8086 mode with IOPL
3; VIF instead in protected mode at CPL 3 with CR4.PVI, and in virtual-8086 mode with CR4.VME; else `#GP(0)`. In the
Itanium System Environment with CFLG.ii, a CLI that changed IF ends in the System Flag intercept, a trap with the state
after it. The byte is FA. -/
def Obligations.CliClearsTheInterruptFlag : Prop :=
  (∀ (z : OpSize) (rest : List Byte), decode z (0xFA :: rest) = .done .cli rest) ∧
  ∀ s : State,
    let clearsIf := s.cr0.pe = false ∨ (s.protectedMode = true ∧ s.cpl.toNat ≤ s.flags.iopl.toNat) ∨
      (s.v86Mode = true ∧ s.flags.iopl = 3)
    let clearsVif := (s.protectedMode = true ∧ s.flags.iopl.toNat < s.cpl.toNat ∧ s.cpl = 3 ∧ s.cr4.pvi = true) ∨
      (s.v86Mode = true ∧ s.flags.iopl ≠ 3 ∧ s.cr4.vme = true)
    let after := { s with flags := { s.flags with ifl := false }, pc := s.nextPc }
    (clearsIf → (s.itaniumSE = true ∧ s.cflg.ii = true ∧ s.flags.ifl = true) →
      exec .cli s = .fault (.systemFlagTrap after)) ∧
    (clearsIf → ¬(s.itaniumSE = true ∧ s.cflg.ii = true ∧ s.flags.ifl = true) → exec .cli s = .next after) ∧
    (clearsVif → exec .cli s = .next { s with flags := { s.flags with vif := false }, pc := s.nextPc }) ∧
    (¬clearsIf → ¬clearsVif → exec .cli s = .fault (.exception .gp (some 0) s.pc none))

/-- CLTS, bytes 0F 06: in the Itanium System Environment the instruction intercept, before the privilege test (the
spec's decision D18); else `#GP(0)` above privilege level 0 outside real-address mode; else CR0.TS becomes 0 and nothing
else changes. -/
def Obligations.CltsClearsTaskSwitched : Prop :=
  (∀ (z : OpSize) (rest : List Byte), decode z (0x0F :: 0x06 :: rest) = .done .clts rest) ∧
  ∀ s : State,
    (s.itaniumSE = true → exec .clts s = .fault (.intercept .instClts s.pc)) ∧
    (s.itaniumSE = false → s.realMode = false → s.cpl ≠ 0 →
      exec .clts s = .fault (.exception .gp (some 0) s.pc none)) ∧
    (s.itaniumSE = false → (s.realMode = true ∨ s.cpl = 0) →
      exec .clts s = .next { s with cr0 := { s.cr0 with ts := false }, pc := s.nextPc })

/-! ## Conditional move, string compare, compare and exchange, CPUID -/

/-- CMOVcc, for all thirty-two forms. With a true condition it moves the source to the destination. With a false one,
and no load of a memory source, it changes nothing but EIP; where the implementation loads a memory source, the load's
fault is the instruction's and a load that succeeds changes nothing; where each execution chooses, an instruction whose
load would succeed goes on either way. No flag changes. -/
def Obligations.ConditionalMoveMovesOnCondition : Prop :=
  ∀ (cond : StatusFlags → Bool) (w : Nat) (dst src : Place w) (i : Instr) (s : State),
    CmovForm cond dst src i → Readable s (dst.regs ++ src.regs) →
    (∀ addrs, cond s.status = true → s.openPlace src .read = .ok addrs →
      ∃ t, exec i s = .next t ∧ Completed 0 s t ∧ t.status = s.status ∧ Written dst [] (s.peek src addrs) s t) ∧
    (cond s.status = false → (s.cfg.cmovFalseLoads = .never ∨ ∀ m, src ≠ .mem m) →
      exec i s = .next { s with pc := s.nextPc }) ∧
    (∀ m, cond s.status = false → src = .mem m →
      (∀ f, s.cfg.cmovFalseLoads = .always → s.memAccess m [w / 8] .read = .error (.fault f) → exec i s = .fault f) ∧
      (∀ addrs, s.cfg.cmovFalseLoads = .always → s.memAccess m [w / 8] .read = .ok addrs →
        exec i s = .next { s with pc := s.nextPc }) ∧
      (∀ addrs, s.cfg.cmovFalseLoads = .perExecution → s.memAccess m [w / 8] .read = .ok addrs →
        exec i s = .next { s with pc := s.nextPc, draws := s.draws + 1 }))

/-- CMPS: the six status flags of the first source minus the second, and both index registers of the address size move
by the operand's bytes, up or down as DF says; upper halves, other registers and memory stay. -/
def Obligations.CompareStringsStepsTheIndexes : Prop :=
  ∀ (w : Nat) (a : OpSize) (g : SegReg) (i : Instr) (s : State) (p q : List Nat),
    CmpsForm w a g i → Readable s [.esi, .edi] →
    s.segAccess g a (a.wrap (s.reg32 .esi)) [w / 8] .read = .ok p →
    s.segAccess .es a (a.wrap (s.reg32 .edi)) [w / 8] .read = .ok q →
    let x : BitVec w := s.load w p
    let y : BitVec w := s.load w q
    ∃ t, exec i s = .next t ∧ Completed 0 s t ∧ MemoryKept s t ∧ DifferenceFlags t.status x y (x - y) ∧
      (∀ r, r ≠ .esi → r ≠ .edi → t.reg32 r = s.reg32 r) ∧
      ∀ r ∈ [Reg.esi, .edi],
        let moved := if s.flags.df then s.reg32 r - BitVec.ofNat 32 (w / 8) else s.reg32 r + BitVec.ofNat 32 (w / 8)
        t.reg32 r = (match a with
          | .s32 => moved
          | .s16 => (s.reg32 r).extractLsb' 16 16 ++ moved.extractLsb' 0 16)

/-- CMPXCHG: the six status flags of the accumulator minus the destination, an order that R318 does not print and the
spec's decision D38 chooses. Where they are equal the source goes to the destination; else the destination goes to the
accumulator, and a memory destination is stored to with the value it had. That the value of a memory destination that is
compared is read at the physical addresses which its write access gives, with no access of kind read, is the model's
choice (log 37). -/
def Obligations.CompareAndExchange : Prop :=
  ∀ (lock : Bool) (w : Nat) (acc dst src : Place w) (i : Instr) (s : State) (addrs : List Nat),
    CmpxchgForm lock acc dst src i → Readable s (acc.regs ++ dst.regs ++ src.regs) →
    s.checkLockPlace .cmpxchg lock dst = .ok () → s.openPlace dst .write = .ok addrs →
    let a := s.peek acc []
    let d := s.peek dst addrs
    ∃ t, exec i s = .next t ∧ Completed 0 s t ∧ DifferenceFlags t.status a d (a - d) ∧
      (a = d → Written dst addrs (s.peek src []) s t) ∧
      (a ≠ d → RegistersWritten acc d s t ∧ (∀ x, Memory.read t.mem x = Memory.read s.mem x) ∧
        ∀ x, x ∈ t.stored ↔ x ∈ addrs ∨ x ∈ s.stored)

/-- CMPXCHG8B: ZF says whether EDX:EAX equals the eight bytes. Where it does ECX:EBX is stored to them; else they go to
EDX:EAX and are stored back as they were. The other five status flags stay. That the eight bytes compared are read at
the physical addresses which their write access gives, with no access of kind read, is the model's choice (log 37). -/
def Obligations.CompareAndExchangeEightBytes : Prop :=
  ∀ (lock : Bool) (m : MemOp) (s : State) (addrs : List Nat),
    Readable s ([.eax, .ebx, .ecx, .edx] ++ m.ea.regs) → s.checkLock .cmpxchg8b lock m (s.offset m.ea) 8 = .ok () →
    s.memAccess m [8] .write = .ok addrs →
    let d : QWord := s.load 64 addrs
    let equal := s.reg32 .edx ++ s.reg32 .eax = d
    ∃ t, exec (.cmpxchg8b lock m) s = .next t ∧ Completed 0 s t ∧ t.status = { s.status with zf := t.status.zf } ∧
      (t.status.zf = true ↔ equal) ∧
      (equal → t.regs = s.regs ∧ StoredAt addrs (s.reg32 .ecx ++ s.reg32 .ebx) s t) ∧
      (¬equal → t.reg32 .edx = d.extractLsb' 32 32 ∧ t.reg32 .eax = d.extractLsb' 0 32 ∧
        (∀ r, r ≠ .eax → r ≠ .edx → t.reg32 r = s.reg32 r) ∧
        (∀ x, Memory.read t.mem x = Memory.read s.mem x) ∧ ∀ x, x ∈ t.stored ↔ x ∈ addrs ∨ x ∈ s.stored)

/-- CPUID completes at every privilege level and in every mode: EAX, EBX, ECX and EDX are written, the record of stores
is emptied, no flag, no other register and no byte of memory changes. Leaf 0 gives the highest basic leaf and the vendor
string; leaf 1 a brand index of 0, the feature bits 30, 15 and 8, and the row of the configuration in every bit that is
neither these nor reserved; leaf 80000000H the highest extended leaf; any other leaf in range that the configuration
lists, but 80000001H, its row. What is reserved, and every register of a leaf above the highest, may be anything at each
execution: that R419 rules there, and not the tables of R330 and R332, is the model's choice (log 21). The bytes are
0F A2, and in the Itanium System Environment a set NaT bit of EAX aborts. -/
def Obligations.CpuidIdentifiesAndSerializes : Prop :=
  (∀ (z : OpSize) (rest : List Byte), decode z (0x0F :: 0xA2 :: rest) = .done .cpuid rest) ∧
  (∀ s : State, s.itaniumSE = true → s.nat.eax = true → exec .cpuid s = .fault (.itanium .natConsumption s.pc none)) ∧
  ∀ s : State, Readable s [.eax] →
    let leaf := s.reg32 .eax
    let c := s.cfg.cpuid
    let inRange := if leaf.toNat < 0x80000000 then leaf.toNat ≤ c.maxBasic.toNat else leaf.toNat ≤ c.maxExtended.toNat
    ∃ t, exec .cpuid s = .next t ∧ SameElse s t ∧ t.pc = s.nextPc ∧ t.status = s.status ∧ t.mem = s.mem ∧
      t.stored = [] ∧ t.draws = s.draws + 4 ∧ (∀ r, r ∉ [Reg.eax, .ebx, .ecx, .edx] → t.reg32 r = s.reg32 r) ∧
      (leaf = 0 → t.reg32 .eax = c.maxBasic ∧ t.reg32 .ebx = 0x756E6547 ∧ t.reg32 .ecx = 0x6C65746E ∧
        t.reg32 .edx = 0x49656E69) ∧
      (leaf = 1 → inRange → (t.reg32 .ebx).extractLsb' 0 8 = 0 ∧ (t.reg32 .edx).getLsbD 30 = true ∧
        (t.reg32 .edx).getLsbD 15 = true ∧ (t.reg32 .edx).getLsbD 8 = true ∧
        ∀ row, c.leaves.lookup 1 = some row → (t.reg32 .ebx).extractLsb' 8 24 = row.ebx.extractLsb' 8 24 ∧
          ∀ k < 32, (k ∉ [14, 15, 28, 29, 30, 31] → (t.reg32 .eax).getLsbD k = row.eax.getLsbD k) ∧
            (k ∉ [8, 10, 15, 30] → (t.reg32 .edx).getLsbD k = row.edx.getLsbD k)) ∧
      (leaf = 0x80000000 → inRange → t.reg32 .eax = c.maxExtended) ∧
      (∀ row, leaf ∉ [(0 : DWord), 1, 0x80000000, 0x80000001] → inRange → c.leaves.lookup leaf = some row →
        t.reg32 .eax = row.eax ∧ t.reg32 .ebx = row.ebx ∧ t.reg32 .ecx = row.ecx ∧ t.reg32 .edx = row.edx)
end

