-- ==== Sys2Proof/Laws/State.lean ====
section
/-! SUPPORT. One lemma for each field of the state under each update, and the register file's read after write. -/

namespace Sys2Proof.Machine

/-! ## The register file -/

@[simp] theorem RegFile.get_set_same {α : Type} (f : RegFile α) (r : Reg) (v : α) : (f.set r v).get r = v := by
  cases r <;> rfl

theorem RegFile.get_set_other {α : Type} (f : RegFile α) (r q : Reg) (v : α) (h : q ≠ r) :
    (f.set r v).get q = f.get q := by
  cases r <;> cases q <;> first | rfl | exact absurd rfl h

theorem RegFile.ext_get {α : Type} {f g : RegFile α} (h : ∀ r, f.get r = g.get r) : f = g := by
  cases f; cases g
  have h0 := h .eax; have h1 := h .ecx; have h2 := h .edx; have h3 := h .ebx
  have h4 := h .esp; have h5 := h .ebp; have h6 := h .esi; have h7 := h .edi
  simp only [RegFile.get] at *
  subst h0 h1 h2 h3 h4 h5 h6 h7
  rfl

@[simp] theorem RegFile.set_get {α : Type} (f : RegFile α) (r : Reg) : f.set r (f.get r) = f := by
  cases r <;> rfl

/-! ## `State.set32` -/

@[simp] theorem State.set32_regs (s : State) (r : Reg) (v : DWord) : (s.set32 r v).regs = s.regs.set r v := rfl
@[simp] theorem State.set32_nat (s : State) (r : Reg) (v : DWord) : (s.set32 r v).nat = s.nat := rfl
@[simp] theorem State.set32_pc (s : State) (r : Reg) (v : DWord) : (s.set32 r v).pc = s.pc := rfl
@[simp] theorem State.set32_nextPc (s : State) (r : Reg) (v : DWord) : (s.set32 r v).nextPc = s.nextPc := rfl
@[simp] theorem State.set32_status (s : State) (r : Reg) (v : DWord) : (s.set32 r v).status = s.status := rfl
@[simp] theorem State.set32_flags (s : State) (r : Reg) (v : DWord) : (s.set32 r v).flags = s.flags := rfl
@[simp] theorem State.set32_segs (s : State) (r : Reg) (v : DWord) : (s.set32 r v).segs = s.segs := rfl
@[simp] theorem State.set32_cpl (s : State) (r : Reg) (v : DWord) : (s.set32 r v).cpl = s.cpl := rfl
@[simp] theorem State.set32_gdtr (s : State) (r : Reg) (v : DWord) : (s.set32 r v).gdtr = s.gdtr := rfl
@[simp] theorem State.set32_idtr (s : State) (r : Reg) (v : DWord) : (s.set32 r v).idtr = s.idtr := rfl
@[simp] theorem State.set32_ldtr (s : State) (r : Reg) (v : DWord) : (s.set32 r v).ldtr = s.ldtr := rfl
@[simp] theorem State.set32_tr (s : State) (r : Reg) (v : DWord) : (s.set32 r v).tr = s.tr := rfl
@[simp] theorem State.set32_cr0 (s : State) (r : Reg) (v : DWord) : (s.set32 r v).cr0 = s.cr0 := rfl
@[simp] theorem State.set32_cr4 (s : State) (r : Reg) (v : DWord) : (s.set32 r v).cr4 = s.cr4 := rfl
@[simp] theorem State.set32_psr (s : State) (r : Reg) (v : DWord) : (s.set32 r v).psr = s.psr := rfl
@[simp] theorem State.set32_cflg (s : State) (r : Reg) (v : DWord) : (s.set32 r v).cflg = s.cflg := rfl
@[simp] theorem State.set32_dcrLc (s : State) (r : Reg) (v : DWord) : (s.set32 r v).dcrLc = s.dcrLc := rfl
@[simp] theorem State.set32_firstAfterEntry (s : State) (r : Reg) (v : DWord) :
    (s.set32 r v).firstAfterEntry = s.firstAfterEntry := rfl
@[simp] theorem State.set32_unnamed (s : State) (r : Reg) (v : DWord) : (s.set32 r v).unnamed = s.unnamed := rfl
@[simp] theorem State.set32_mem (s : State) (r : Reg) (v : DWord) : (s.set32 r v).mem = s.mem := rfl
@[simp] theorem State.set32_stored (s : State) (r : Reg) (v : DWord) : (s.set32 r v).stored = s.stored := rfl
@[simp] theorem State.set32_draws (s : State) (r : Reg) (v : DWord) : (s.set32 r v).draws = s.draws := rfl
@[simp] theorem State.set32_cfg (s : State) (r : Reg) (v : DWord) : (s.set32 r v).cfg = s.cfg := rfl

/-! ## `State.set16` -/

@[simp] theorem State.set16_regs (s : State) (r : Reg) (v : Word) :
    (s.set16 r v).regs = s.regs.set r (withWord (s.regs.get r) v) := rfl
@[simp] theorem State.set16_nat (s : State) (r : Reg) (v : Word) : (s.set16 r v).nat = s.nat := rfl
@[simp] theorem State.set16_pc (s : State) (r : Reg) (v : Word) : (s.set16 r v).pc = s.pc := rfl
@[simp] theorem State.set16_nextPc (s : State) (r : Reg) (v : Word) : (s.set16 r v).nextPc = s.nextPc := rfl
@[simp] theorem State.set16_status (s : State) (r : Reg) (v : Word) : (s.set16 r v).status = s.status := rfl
@[simp] theorem State.set16_flags (s : State) (r : Reg) (v : Word) : (s.set16 r v).flags = s.flags := rfl
@[simp] theorem State.set16_segs (s : State) (r : Reg) (v : Word) : (s.set16 r v).segs = s.segs := rfl
@[simp] theorem State.set16_cpl (s : State) (r : Reg) (v : Word) : (s.set16 r v).cpl = s.cpl := rfl
@[simp] theorem State.set16_gdtr (s : State) (r : Reg) (v : Word) : (s.set16 r v).gdtr = s.gdtr := rfl
@[simp] theorem State.set16_idtr (s : State) (r : Reg) (v : Word) : (s.set16 r v).idtr = s.idtr := rfl
@[simp] theorem State.set16_ldtr (s : State) (r : Reg) (v : Word) : (s.set16 r v).ldtr = s.ldtr := rfl
@[simp] theorem State.set16_tr (s : State) (r : Reg) (v : Word) : (s.set16 r v).tr = s.tr := rfl
@[simp] theorem State.set16_cr0 (s : State) (r : Reg) (v : Word) : (s.set16 r v).cr0 = s.cr0 := rfl
@[simp] theorem State.set16_cr4 (s : State) (r : Reg) (v : Word) : (s.set16 r v).cr4 = s.cr4 := rfl
@[simp] theorem State.set16_psr (s : State) (r : Reg) (v : Word) : (s.set16 r v).psr = s.psr := rfl
@[simp] theorem State.set16_cflg (s : State) (r : Reg) (v : Word) : (s.set16 r v).cflg = s.cflg := rfl
@[simp] theorem State.set16_dcrLc (s : State) (r : Reg) (v : Word) : (s.set16 r v).dcrLc = s.dcrLc := rfl
@[simp] theorem State.set16_firstAfterEntry (s : State) (r : Reg) (v : Word) :
    (s.set16 r v).firstAfterEntry = s.firstAfterEntry := rfl
@[simp] theorem State.set16_unnamed (s : State) (r : Reg) (v : Word) : (s.set16 r v).unnamed = s.unnamed := rfl
@[simp] theorem State.set16_mem (s : State) (r : Reg) (v : Word) : (s.set16 r v).mem = s.mem := rfl
@[simp] theorem State.set16_stored (s : State) (r : Reg) (v : Word) : (s.set16 r v).stored = s.stored := rfl
@[simp] theorem State.set16_draws (s : State) (r : Reg) (v : Word) : (s.set16 r v).draws = s.draws := rfl
@[simp] theorem State.set16_cfg (s : State) (r : Reg) (v : Word) : (s.set16 r v).cfg = s.cfg := rfl

/-! ## `State.set8` -/

@[simp] theorem State.set8_regs (s : State) (r : Reg8) (v : Byte) :
    (s.set8 r v).regs = s.regs.set r.parent (withByte (s.regs.get r.parent) r.high v) := rfl
@[simp] theorem State.set8_nat (s : State) (r : Reg8) (v : Byte) : (s.set8 r v).nat = s.nat := rfl
@[simp] theorem State.set8_pc (s : State) (r : Reg8) (v : Byte) : (s.set8 r v).pc = s.pc := rfl
@[simp] theorem State.set8_nextPc (s : State) (r : Reg8) (v : Byte) : (s.set8 r v).nextPc = s.nextPc := rfl
@[simp] theorem State.set8_status (s : State) (r : Reg8) (v : Byte) : (s.set8 r v).status = s.status := rfl
@[simp] theorem State.set8_flags (s : State) (r : Reg8) (v : Byte) : (s.set8 r v).flags = s.flags := rfl
@[simp] theorem State.set8_segs (s : State) (r : Reg8) (v : Byte) : (s.set8 r v).segs = s.segs := rfl
@[simp] theorem State.set8_cpl (s : State) (r : Reg8) (v : Byte) : (s.set8 r v).cpl = s.cpl := rfl
@[simp] theorem State.set8_gdtr (s : State) (r : Reg8) (v : Byte) : (s.set8 r v).gdtr = s.gdtr := rfl
@[simp] theorem State.set8_idtr (s : State) (r : Reg8) (v : Byte) : (s.set8 r v).idtr = s.idtr := rfl
@[simp] theorem State.set8_ldtr (s : State) (r : Reg8) (v : Byte) : (s.set8 r v).ldtr = s.ldtr := rfl
@[simp] theorem State.set8_tr (s : State) (r : Reg8) (v : Byte) : (s.set8 r v).tr = s.tr := rfl
@[simp] theorem State.set8_cr0 (s : State) (r : Reg8) (v : Byte) : (s.set8 r v).cr0 = s.cr0 := rfl
@[simp] theorem State.set8_cr4 (s : State) (r : Reg8) (v : Byte) : (s.set8 r v).cr4 = s.cr4 := rfl
@[simp] theorem State.set8_psr (s : State) (r : Reg8) (v : Byte) : (s.set8 r v).psr = s.psr := rfl
@[simp] theorem State.set8_cflg (s : State) (r : Reg8) (v : Byte) : (s.set8 r v).cflg = s.cflg := rfl
@[simp] theorem State.set8_dcrLc (s : State) (r : Reg8) (v : Byte) : (s.set8 r v).dcrLc = s.dcrLc := rfl
@[simp] theorem State.set8_firstAfterEntry (s : State) (r : Reg8) (v : Byte) :
    (s.set8 r v).firstAfterEntry = s.firstAfterEntry := rfl
@[simp] theorem State.set8_unnamed (s : State) (r : Reg8) (v : Byte) : (s.set8 r v).unnamed = s.unnamed := rfl
@[simp] theorem State.set8_mem (s : State) (r : Reg8) (v : Byte) : (s.set8 r v).mem = s.mem := rfl
@[simp] theorem State.set8_stored (s : State) (r : Reg8) (v : Byte) : (s.set8 r v).stored = s.stored := rfl
@[simp] theorem State.set8_draws (s : State) (r : Reg8) (v : Byte) : (s.set8 r v).draws = s.draws := rfl
@[simp] theorem State.set8_cfg (s : State) (r : Reg8) (v : Byte) : (s.set8 r v).cfg = s.cfg := rfl

/-! ## `State.setStatus` -/

@[simp] theorem State.setStatus_regs (s : State) (f : StatusFlags) : (s.setStatus f).regs = s.regs := rfl
@[simp] theorem State.setStatus_nat (s : State) (f : StatusFlags) : (s.setStatus f).nat = s.nat := rfl
@[simp] theorem State.setStatus_pc (s : State) (f : StatusFlags) : (s.setStatus f).pc = s.pc := rfl
@[simp] theorem State.setStatus_nextPc (s : State) (f : StatusFlags) : (s.setStatus f).nextPc = s.nextPc := rfl
@[simp] theorem State.setStatus_status (s : State) (f : StatusFlags) : (s.setStatus f).status = f := rfl
@[simp] theorem State.setStatus_flags (s : State) (f : StatusFlags) : (s.setStatus f).flags = s.flags := rfl
@[simp] theorem State.setStatus_segs (s : State) (f : StatusFlags) : (s.setStatus f).segs = s.segs := rfl
@[simp] theorem State.setStatus_cpl (s : State) (f : StatusFlags) : (s.setStatus f).cpl = s.cpl := rfl
@[simp] theorem State.setStatus_gdtr (s : State) (f : StatusFlags) : (s.setStatus f).gdtr = s.gdtr := rfl
@[simp] theorem State.setStatus_idtr (s : State) (f : StatusFlags) : (s.setStatus f).idtr = s.idtr := rfl
@[simp] theorem State.setStatus_ldtr (s : State) (f : StatusFlags) : (s.setStatus f).ldtr = s.ldtr := rfl
@[simp] theorem State.setStatus_tr (s : State) (f : StatusFlags) : (s.setStatus f).tr = s.tr := rfl
@[simp] theorem State.setStatus_cr0 (s : State) (f : StatusFlags) : (s.setStatus f).cr0 = s.cr0 := rfl
@[simp] theorem State.setStatus_cr4 (s : State) (f : StatusFlags) : (s.setStatus f).cr4 = s.cr4 := rfl
@[simp] theorem State.setStatus_psr (s : State) (f : StatusFlags) : (s.setStatus f).psr = s.psr := rfl
@[simp] theorem State.setStatus_cflg (s : State) (f : StatusFlags) : (s.setStatus f).cflg = s.cflg := rfl
@[simp] theorem State.setStatus_dcrLc (s : State) (f : StatusFlags) : (s.setStatus f).dcrLc = s.dcrLc := rfl
@[simp] theorem State.setStatus_firstAfterEntry (s : State) (f : StatusFlags) :
    (s.setStatus f).firstAfterEntry = s.firstAfterEntry := rfl
@[simp] theorem State.setStatus_unnamed (s : State) (f : StatusFlags) : (s.setStatus f).unnamed = s.unnamed := rfl
@[simp] theorem State.setStatus_mem (s : State) (f : StatusFlags) : (s.setStatus f).mem = s.mem := rfl
@[simp] theorem State.setStatus_stored (s : State) (f : StatusFlags) : (s.setStatus f).stored = s.stored := rfl
@[simp] theorem State.setStatus_draws (s : State) (f : StatusFlags) : (s.setStatus f).draws = s.draws := rfl
@[simp] theorem State.setStatus_cfg (s : State) (f : StatusFlags) : (s.setStatus f).cfg = s.cfg := rfl

/-! ## `State.drew` -/

@[simp] theorem State.drew_regs (s : State) (n : Nat) : (s.drew n).regs = s.regs := rfl
@[simp] theorem State.drew_nat (s : State) (n : Nat) : (s.drew n).nat = s.nat := rfl
@[simp] theorem State.drew_pc (s : State) (n : Nat) : (s.drew n).pc = s.pc := rfl
@[simp] theorem State.drew_nextPc (s : State) (n : Nat) : (s.drew n).nextPc = s.nextPc := rfl
@[simp] theorem State.drew_status (s : State) (n : Nat) : (s.drew n).status = s.status := rfl
@[simp] theorem State.drew_flags (s : State) (n : Nat) : (s.drew n).flags = s.flags := rfl
@[simp] theorem State.drew_segs (s : State) (n : Nat) : (s.drew n).segs = s.segs := rfl
@[simp] theorem State.drew_cpl (s : State) (n : Nat) : (s.drew n).cpl = s.cpl := rfl
@[simp] theorem State.drew_gdtr (s : State) (n : Nat) : (s.drew n).gdtr = s.gdtr := rfl
@[simp] theorem State.drew_idtr (s : State) (n : Nat) : (s.drew n).idtr = s.idtr := rfl
@[simp] theorem State.drew_ldtr (s : State) (n : Nat) : (s.drew n).ldtr = s.ldtr := rfl
@[simp] theorem State.drew_tr (s : State) (n : Nat) : (s.drew n).tr = s.tr := rfl
@[simp] theorem State.drew_cr0 (s : State) (n : Nat) : (s.drew n).cr0 = s.cr0 := rfl
@[simp] theorem State.drew_cr4 (s : State) (n : Nat) : (s.drew n).cr4 = s.cr4 := rfl
@[simp] theorem State.drew_psr (s : State) (n : Nat) : (s.drew n).psr = s.psr := rfl
@[simp] theorem State.drew_cflg (s : State) (n : Nat) : (s.drew n).cflg = s.cflg := rfl
@[simp] theorem State.drew_dcrLc (s : State) (n : Nat) : (s.drew n).dcrLc = s.dcrLc := rfl
@[simp] theorem State.drew_firstAfterEntry (s : State) (n : Nat) :
    (s.drew n).firstAfterEntry = s.firstAfterEntry := rfl
@[simp] theorem State.drew_unnamed (s : State) (n : Nat) : (s.drew n).unnamed = s.unnamed := rfl
@[simp] theorem State.drew_mem (s : State) (n : Nat) : (s.drew n).mem = s.mem := rfl
@[simp] theorem State.drew_stored (s : State) (n : Nat) : (s.drew n).stored = s.stored := rfl
@[simp] theorem State.drew_draws (s : State) (n : Nat) : (s.drew n).draws = s.draws + n := rfl
@[simp] theorem State.drew_cfg (s : State) (n : Nat) : (s.drew n).cfg = s.cfg := rfl

/-! ## `State.advance` -/

@[simp] theorem State.advance_regs (s : State) : (s.advance).regs = s.regs := rfl
@[simp] theorem State.advance_nat (s : State) : (s.advance).nat = s.nat := rfl
@[simp] theorem State.advance_pc (s : State) : (s.advance).pc = s.nextPc := rfl
@[simp] theorem State.advance_nextPc (s : State) : (s.advance).nextPc = s.nextPc := rfl
@[simp] theorem State.advance_status (s : State) : (s.advance).status = s.status := rfl
@[simp] theorem State.advance_flags (s : State) : (s.advance).flags = s.flags := rfl
@[simp] theorem State.advance_segs (s : State) : (s.advance).segs = s.segs := rfl
@[simp] theorem State.advance_cpl (s : State) : (s.advance).cpl = s.cpl := rfl
@[simp] theorem State.advance_gdtr (s : State) : (s.advance).gdtr = s.gdtr := rfl
@[simp] theorem State.advance_idtr (s : State) : (s.advance).idtr = s.idtr := rfl
@[simp] theorem State.advance_ldtr (s : State) : (s.advance).ldtr = s.ldtr := rfl
@[simp] theorem State.advance_tr (s : State) : (s.advance).tr = s.tr := rfl
@[simp] theorem State.advance_cr0 (s : State) : (s.advance).cr0 = s.cr0 := rfl
@[simp] theorem State.advance_cr4 (s : State) : (s.advance).cr4 = s.cr4 := rfl
@[simp] theorem State.advance_psr (s : State) : (s.advance).psr = s.psr := rfl
@[simp] theorem State.advance_cflg (s : State) : (s.advance).cflg = s.cflg := rfl
@[simp] theorem State.advance_dcrLc (s : State) : (s.advance).dcrLc = s.dcrLc := rfl
@[simp] theorem State.advance_firstAfterEntry (s : State) : (s.advance).firstAfterEntry = s.firstAfterEntry := rfl
@[simp] theorem State.advance_unnamed (s : State) : (s.advance).unnamed = s.unnamed := rfl
@[simp] theorem State.advance_mem (s : State) : (s.advance).mem = s.mem := rfl
@[simp] theorem State.advance_stored (s : State) : (s.advance).stored = s.stored := rfl
@[simp] theorem State.advance_draws (s : State) : (s.advance).draws = s.draws := rfl
@[simp] theorem State.advance_cfg (s : State) : (s.advance).cfg = s.cfg := rfl

/-! ## `State.setPc` -/

@[simp] theorem State.setPc_regs (s : State) (v : DWord) : (s.setPc v).regs = s.regs := rfl
@[simp] theorem State.setPc_nat (s : State) (v : DWord) : (s.setPc v).nat = s.nat := rfl
@[simp] theorem State.setPc_pc (s : State) (v : DWord) : (s.setPc v).pc = v := rfl
@[simp] theorem State.setPc_nextPc (s : State) (v : DWord) : (s.setPc v).nextPc = s.nextPc := rfl
@[simp] theorem State.setPc_status (s : State) (v : DWord) : (s.setPc v).status = s.status := rfl
@[simp] theorem State.setPc_flags (s : State) (v : DWord) : (s.setPc v).flags = s.flags := rfl
@[simp] theorem State.setPc_segs (s : State) (v : DWord) : (s.setPc v).segs = s.segs := rfl
@[simp] theorem State.setPc_cpl (s : State) (v : DWord) : (s.setPc v).cpl = s.cpl := rfl
@[simp] theorem State.setPc_gdtr (s : State) (v : DWord) : (s.setPc v).gdtr = s.gdtr := rfl
@[simp] theorem State.setPc_idtr (s : State) (v : DWord) : (s.setPc v).idtr = s.idtr := rfl
@[simp] theorem State.setPc_ldtr (s : State) (v : DWord) : (s.setPc v).ldtr = s.ldtr := rfl
@[simp] theorem State.setPc_tr (s : State) (v : DWord) : (s.setPc v).tr = s.tr := rfl
@[simp] theorem State.setPc_cr0 (s : State) (v : DWord) : (s.setPc v).cr0 = s.cr0 := rfl
@[simp] theorem State.setPc_cr4 (s : State) (v : DWord) : (s.setPc v).cr4 = s.cr4 := rfl
@[simp] theorem State.setPc_psr (s : State) (v : DWord) : (s.setPc v).psr = s.psr := rfl
@[simp] theorem State.setPc_cflg (s : State) (v : DWord) : (s.setPc v).cflg = s.cflg := rfl
@[simp] theorem State.setPc_dcrLc (s : State) (v : DWord) : (s.setPc v).dcrLc = s.dcrLc := rfl
@[simp] theorem State.setPc_firstAfterEntry (s : State) (v : DWord) :
    (s.setPc v).firstAfterEntry = s.firstAfterEntry := rfl
@[simp] theorem State.setPc_unnamed (s : State) (v : DWord) : (s.setPc v).unnamed = s.unnamed := rfl
@[simp] theorem State.setPc_mem (s : State) (v : DWord) : (s.setPc v).mem = s.mem := rfl
@[simp] theorem State.setPc_stored (s : State) (v : DWord) : (s.setPc v).stored = s.stored := rfl
@[simp] theorem State.setPc_draws (s : State) (v : DWord) : (s.setPc v).draws = s.draws := rfl
@[simp] theorem State.setPc_cfg (s : State) (v : DWord) : (s.setPc v).cfg = s.cfg := rfl

/-! ## `State.setCs` -/

@[simp] theorem State.setCs_regs (s : State) (g : Segment) : (s.setCs g).regs = s.regs := rfl
@[simp] theorem State.setCs_nat (s : State) (g : Segment) : (s.setCs g).nat = s.nat := rfl
@[simp] theorem State.setCs_pc (s : State) (g : Segment) : (s.setCs g).pc = s.pc := rfl
@[simp] theorem State.setCs_nextPc (s : State) (g : Segment) : (s.setCs g).nextPc = s.nextPc := rfl
@[simp] theorem State.setCs_status (s : State) (g : Segment) : (s.setCs g).status = s.status := rfl
@[simp] theorem State.setCs_flags (s : State) (g : Segment) : (s.setCs g).flags = s.flags := rfl
@[simp] theorem State.setCs_segs (s : State) (g : Segment) : (s.setCs g).segs = { s.segs with cs := g } := rfl
@[simp] theorem State.setCs_cpl (s : State) (g : Segment) : (s.setCs g).cpl = s.cpl := rfl
@[simp] theorem State.setCs_gdtr (s : State) (g : Segment) : (s.setCs g).gdtr = s.gdtr := rfl
@[simp] theorem State.setCs_idtr (s : State) (g : Segment) : (s.setCs g).idtr = s.idtr := rfl
@[simp] theorem State.setCs_ldtr (s : State) (g : Segment) : (s.setCs g).ldtr = s.ldtr := rfl
@[simp] theorem State.setCs_tr (s : State) (g : Segment) : (s.setCs g).tr = s.tr := rfl
@[simp] theorem State.setCs_cr0 (s : State) (g : Segment) : (s.setCs g).cr0 = s.cr0 := rfl
@[simp] theorem State.setCs_cr4 (s : State) (g : Segment) : (s.setCs g).cr4 = s.cr4 := rfl
@[simp] theorem State.setCs_psr (s : State) (g : Segment) : (s.setCs g).psr = s.psr := rfl
@[simp] theorem State.setCs_cflg (s : State) (g : Segment) : (s.setCs g).cflg = s.cflg := rfl
@[simp] theorem State.setCs_dcrLc (s : State) (g : Segment) : (s.setCs g).dcrLc = s.dcrLc := rfl
@[simp] theorem State.setCs_firstAfterEntry (s : State) (g : Segment) :
    (s.setCs g).firstAfterEntry = s.firstAfterEntry := rfl
@[simp] theorem State.setCs_unnamed (s : State) (g : Segment) : (s.setCs g).unnamed = s.unnamed := rfl
@[simp] theorem State.setCs_mem (s : State) (g : Segment) : (s.setCs g).mem = s.mem := rfl
@[simp] theorem State.setCs_stored (s : State) (g : Segment) : (s.setCs g).stored = s.stored := rfl
@[simp] theorem State.setCs_draws (s : State) (g : Segment) : (s.setCs g).draws = s.draws := rfl
@[simp] theorem State.setCs_cfg (s : State) (g : Segment) : (s.setCs g).cfg = s.cfg := rfl

/-! ## `State.storeByte` -/

@[simp] theorem State.storeByte_regs (s : State) (a : Nat) (v : Byte) : (s.storeByte a v).regs = s.regs := rfl
@[simp] theorem State.storeByte_nat (s : State) (a : Nat) (v : Byte) : (s.storeByte a v).nat = s.nat := rfl
@[simp] theorem State.storeByte_pc (s : State) (a : Nat) (v : Byte) : (s.storeByte a v).pc = s.pc := rfl
@[simp] theorem State.storeByte_nextPc (s : State) (a : Nat) (v : Byte) : (s.storeByte a v).nextPc = s.nextPc := rfl
@[simp] theorem State.storeByte_status (s : State) (a : Nat) (v : Byte) : (s.storeByte a v).status = s.status := rfl
@[simp] theorem State.storeByte_flags (s : State) (a : Nat) (v : Byte) : (s.storeByte a v).flags = s.flags := rfl
@[simp] theorem State.storeByte_segs (s : State) (a : Nat) (v : Byte) : (s.storeByte a v).segs = s.segs := rfl
@[simp] theorem State.storeByte_cpl (s : State) (a : Nat) (v : Byte) : (s.storeByte a v).cpl = s.cpl := rfl
@[simp] theorem State.storeByte_gdtr (s : State) (a : Nat) (v : Byte) : (s.storeByte a v).gdtr = s.gdtr := rfl
@[simp] theorem State.storeByte_idtr (s : State) (a : Nat) (v : Byte) : (s.storeByte a v).idtr = s.idtr := rfl
@[simp] theorem State.storeByte_ldtr (s : State) (a : Nat) (v : Byte) : (s.storeByte a v).ldtr = s.ldtr := rfl
@[simp] theorem State.storeByte_tr (s : State) (a : Nat) (v : Byte) : (s.storeByte a v).tr = s.tr := rfl
@[simp] theorem State.storeByte_cr0 (s : State) (a : Nat) (v : Byte) : (s.storeByte a v).cr0 = s.cr0 := rfl
@[simp] theorem State.storeByte_cr4 (s : State) (a : Nat) (v : Byte) : (s.storeByte a v).cr4 = s.cr4 := rfl
@[simp] theorem State.storeByte_psr (s : State) (a : Nat) (v : Byte) : (s.storeByte a v).psr = s.psr := rfl
@[simp] theorem State.storeByte_cflg (s : State) (a : Nat) (v : Byte) : (s.storeByte a v).cflg = s.cflg := rfl
@[simp] theorem State.storeByte_dcrLc (s : State) (a : Nat) (v : Byte) : (s.storeByte a v).dcrLc = s.dcrLc := rfl
@[simp] theorem State.storeByte_firstAfterEntry (s : State) (a : Nat) (v : Byte) :
    (s.storeByte a v).firstAfterEntry = s.firstAfterEntry := rfl
@[simp] theorem State.storeByte_unnamed (s : State) (a : Nat) (v : Byte) :
    (s.storeByte a v).unnamed = s.unnamed := rfl
@[simp] theorem State.storeByte_mem (s : State) (a : Nat) (v : Byte) :
    (s.storeByte a v).mem = Memory.write s.mem a v := rfl
@[simp] theorem State.storeByte_stored (s : State) (a : Nat) (v : Byte) :
    (s.storeByte a v).stored = insertRising s.stored a := rfl
@[simp] theorem State.storeByte_draws (s : State) (a : Nat) (v : Byte) : (s.storeByte a v).draws = s.draws := rfl
@[simp] theorem State.storeByte_cfg (s : State) (a : Nat) (v : Byte) : (s.storeByte a v).cfg = s.cfg := rfl

/-! ## `State.serialize` -/

@[simp] theorem State.serialize_regs (s : State) : (s.serialize).regs = s.regs := rfl
@[simp] theorem State.serialize_nat (s : State) : (s.serialize).nat = s.nat := rfl
@[simp] theorem State.serialize_pc (s : State) : (s.serialize).pc = s.pc := rfl
@[simp] theorem State.serialize_nextPc (s : State) : (s.serialize).nextPc = s.nextPc := rfl
@[simp] theorem State.serialize_status (s : State) : (s.serialize).status = s.status := rfl
@[simp] theorem State.serialize_flags (s : State) : (s.serialize).flags = s.flags := rfl
@[simp] theorem State.serialize_segs (s : State) : (s.serialize).segs = s.segs := rfl
@[simp] theorem State.serialize_cpl (s : State) : (s.serialize).cpl = s.cpl := rfl
@[simp] theorem State.serialize_gdtr (s : State) : (s.serialize).gdtr = s.gdtr := rfl
@[simp] theorem State.serialize_idtr (s : State) : (s.serialize).idtr = s.idtr := rfl
@[simp] theorem State.serialize_ldtr (s : State) : (s.serialize).ldtr = s.ldtr := rfl
@[simp] theorem State.serialize_tr (s : State) : (s.serialize).tr = s.tr := rfl
@[simp] theorem State.serialize_cr0 (s : State) : (s.serialize).cr0 = s.cr0 := rfl
@[simp] theorem State.serialize_cr4 (s : State) : (s.serialize).cr4 = s.cr4 := rfl
@[simp] theorem State.serialize_psr (s : State) : (s.serialize).psr = s.psr := rfl
@[simp] theorem State.serialize_cflg (s : State) : (s.serialize).cflg = s.cflg := rfl
@[simp] theorem State.serialize_dcrLc (s : State) : (s.serialize).dcrLc = s.dcrLc := rfl
@[simp] theorem State.serialize_firstAfterEntry (s : State) : (s.serialize).firstAfterEntry = s.firstAfterEntry := rfl
@[simp] theorem State.serialize_unnamed (s : State) : (s.serialize).unnamed = s.unnamed := rfl
@[simp] theorem State.serialize_mem (s : State) : (s.serialize).mem = s.mem := rfl
@[simp] theorem State.serialize_stored (s : State) : (s.serialize).stored = [] := rfl
@[simp] theorem State.serialize_draws (s : State) : (s.serialize).draws = s.draws := rfl
@[simp] theorem State.serialize_cfg (s : State) : (s.serialize).cfg = s.cfg := rfl

/-! ## `State.entered` -/

@[simp] theorem State.entered_regs (s : State) : (s.entered).regs = s.regs := rfl
@[simp] theorem State.entered_nat (s : State) : (s.entered).nat = s.nat := rfl
@[simp] theorem State.entered_pc (s : State) : (s.entered).pc = s.pc := rfl
@[simp] theorem State.entered_nextPc (s : State) : (s.entered).nextPc = s.nextPc := rfl
@[simp] theorem State.entered_status (s : State) : (s.entered).status = s.status := rfl
@[simp] theorem State.entered_flags (s : State) : (s.entered).flags = s.flags := rfl
@[simp] theorem State.entered_segs (s : State) : (s.entered).segs = s.segs := rfl
@[simp] theorem State.entered_cpl (s : State) : (s.entered).cpl = s.cpl := rfl
@[simp] theorem State.entered_gdtr (s : State) : (s.entered).gdtr = s.gdtr := rfl
@[simp] theorem State.entered_idtr (s : State) : (s.entered).idtr = s.idtr := rfl
@[simp] theorem State.entered_ldtr (s : State) : (s.entered).ldtr = s.ldtr := rfl
@[simp] theorem State.entered_tr (s : State) : (s.entered).tr = s.tr := rfl
@[simp] theorem State.entered_cr0 (s : State) : (s.entered).cr0 = s.cr0 := rfl
@[simp] theorem State.entered_cr4 (s : State) : (s.entered).cr4 = s.cr4 := rfl
@[simp] theorem State.entered_psr (s : State) : (s.entered).psr = s.psr := rfl
@[simp] theorem State.entered_cflg (s : State) : (s.entered).cflg = s.cflg := rfl
@[simp] theorem State.entered_dcrLc (s : State) : (s.entered).dcrLc = s.dcrLc := rfl
@[simp] theorem State.entered_firstAfterEntry (s : State) : (s.entered).firstAfterEntry = false := rfl
@[simp] theorem State.entered_unnamed (s : State) : (s.entered).unnamed = s.unnamed := rfl
@[simp] theorem State.entered_mem (s : State) : (s.entered).mem = s.mem := rfl
@[simp] theorem State.entered_stored (s : State) : (s.entered).stored = s.stored := rfl
@[simp] theorem State.entered_draws (s : State) : (s.entered).draws = s.draws := rfl
@[simp] theorem State.entered_cfg (s : State) : (s.entered).cfg = s.cfg := rfl

/-! ## `State.switched` -/

@[simp] theorem State.switched_regs (s : State) (ss cs : Segment) (esp target : DWord) (level : BitVec 2) :
    (s.switched ss cs esp target level).regs = { s.regs with esp := esp } := rfl
@[simp] theorem State.switched_nat (s : State) (ss cs : Segment) (esp target : DWord) (level : BitVec 2) :
    (s.switched ss cs esp target level).nat = s.nat := rfl
@[simp] theorem State.switched_pc (s : State) (ss cs : Segment) (esp target : DWord) (level : BitVec 2) :
    (s.switched ss cs esp target level).pc = target := rfl
@[simp] theorem State.switched_nextPc (s : State) (ss cs : Segment) (esp target : DWord) (level : BitVec 2) :
    (s.switched ss cs esp target level).nextPc = s.nextPc := rfl
@[simp] theorem State.switched_status (s : State) (ss cs : Segment) (esp target : DWord) (level : BitVec 2) :
    (s.switched ss cs esp target level).status = s.status := rfl
@[simp] theorem State.switched_flags (s : State) (ss cs : Segment) (esp target : DWord) (level : BitVec 2) :
    (s.switched ss cs esp target level).flags = s.flags := rfl
@[simp] theorem State.switched_segs (s : State) (ss cs : Segment) (esp target : DWord) (level : BitVec 2) :
    (s.switched ss cs esp target level).segs = { s.segs with ss := ss, cs := cs } := rfl
@[simp] theorem State.switched_cpl (s : State) (ss cs : Segment) (esp target : DWord) (level : BitVec 2) :
    (s.switched ss cs esp target level).cpl = level := rfl
@[simp] theorem State.switched_gdtr (s : State) (ss cs : Segment) (esp target : DWord) (level : BitVec 2) :
    (s.switched ss cs esp target level).gdtr = s.gdtr := rfl
@[simp] theorem State.switched_idtr (s : State) (ss cs : Segment) (esp target : DWord) (level : BitVec 2) :
    (s.switched ss cs esp target level).idtr = s.idtr := rfl
@[simp] theorem State.switched_ldtr (s : State) (ss cs : Segment) (esp target : DWord) (level : BitVec 2) :
    (s.switched ss cs esp target level).ldtr = s.ldtr := rfl
@[simp] theorem State.switched_tr (s : State) (ss cs : Segment) (esp target : DWord) (level : BitVec 2) :
    (s.switched ss cs esp target level).tr = s.tr := rfl
@[simp] theorem State.switched_cr0 (s : State) (ss cs : Segment) (esp target : DWord) (level : BitVec 2) :
    (s.switched ss cs esp target level).cr0 = s.cr0 := rfl
@[simp] theorem State.switched_cr4 (s : State) (ss cs : Segment) (esp target : DWord) (level : BitVec 2) :
    (s.switched ss cs esp target level).cr4 = s.cr4 := rfl
@[simp] theorem State.switched_psr (s : State) (ss cs : Segment) (esp target : DWord) (level : BitVec 2) :
    (s.switched ss cs esp target level).psr = s.psr := rfl
@[simp] theorem State.switched_cflg (s : State) (ss cs : Segment) (esp target : DWord) (level : BitVec 2) :
    (s.switched ss cs esp target level).cflg = s.cflg := rfl
@[simp] theorem State.switched_dcrLc (s : State) (ss cs : Segment) (esp target : DWord) (level : BitVec 2) :
    (s.switched ss cs esp target level).dcrLc = s.dcrLc := rfl
@[simp] theorem State.switched_firstAfterEntry (s : State) (ss cs : Segment) (esp target : DWord) (level : BitVec 2) :
    (s.switched ss cs esp target level).firstAfterEntry = s.firstAfterEntry := rfl
@[simp] theorem State.switched_unnamed (s : State) (ss cs : Segment) (esp target : DWord) (level : BitVec 2) :
    (s.switched ss cs esp target level).unnamed = s.unnamed := rfl
@[simp] theorem State.switched_mem (s : State) (ss cs : Segment) (esp target : DWord) (level : BitVec 2) :
    (s.switched ss cs esp target level).mem = s.mem := rfl
@[simp] theorem State.switched_stored (s : State) (ss cs : Segment) (esp target : DWord) (level : BitVec 2) :
    (s.switched ss cs esp target level).stored = s.stored := rfl
@[simp] theorem State.switched_draws (s : State) (ss cs : Segment) (esp target : DWord) (level : BitVec 2) :
    (s.switched ss cs esp target level).draws = s.draws := rfl
@[simp] theorem State.switched_cfg (s : State) (ss cs : Segment) (esp target : DWord) (level : BitVec 2) :
    (s.switched ss cs esp target level).cfg = s.cfg := rfl

end Sys2Proof.Machine
end

