-- ==== Sys2Proof/Laws/Memory.lean ====
section
/-! SUPPORT. Memory: reading after writing, the canonical form, and what a store leaves alone. -/

namespace Sys2Proof.Machine

/-! ## One byte -/

theorem Memory.lookup_write_same (m : List Host.Cell) (a : Nat) (v : Byte) :
    Memory.lookup (Memory.write m a v) a = some v := by
  induction m with
  | nil => simp [Memory.write, Memory.lookup]
  | cons c m ih =>
    obtain ⟨b, w⟩ := c
    simp only [Memory.write]
    split
    · simp [Memory.lookup]
    · split
      · simp [Memory.lookup]
      · rename_i h1 h2
        simp [Memory.lookup, h2, ih]

theorem Memory.lookup_write_other (m : List Host.Cell) (a b : Nat) (v : Byte) (h : b ≠ a) :
    Memory.lookup (Memory.write m a v) b = Memory.lookup m b := by
  induction m with
  | nil => simp [Memory.write, Memory.lookup, h]
  | cons c m ih =>
    obtain ⟨d, w⟩ := c
    simp only [Memory.write]
    split
    · simp [Memory.lookup, h]
    · split
      · rename_i h1 h2
        subst h2
        simp [Memory.lookup, h]
      · simp [Memory.lookup, ih]

@[simp] theorem Memory.read_write_same (m : List Host.Cell) (a : Nat) (v : Byte) :
    Memory.read (Memory.write m a v) a = v := by
  simp [Memory.read, Memory.lookup_write_same]

theorem Memory.read_write_other (m : List Host.Cell) (a b : Nat) (v : Byte) (h : b ≠ a) :
    Memory.read (Memory.write m a v) b = Memory.read m b := by
  simp [Memory.read, Memory.lookup_write_other m a b v h]

/-! ## The canonical form -/

theorem Memory.wf_cons (c : Host.Cell) (m : List Host.Cell) :
    Memory.wf (c :: m) = true ↔ (∀ d ∈ m, c.1 < d.1) ∧ Memory.wf m = true := by
  induction m generalizing c with
  | nil => simp [Memory.wf]
  | cons d m ih =>
    obtain ⟨a, v⟩ := c
    obtain ⟨b, w⟩ := d
    simp only [Memory.wf, Bool.and_eq_true, decide_eq_true_eq, List.mem_cons, forall_eq_or_imp]
    constructor
    · rintro ⟨h1, h2⟩
      have h3 := (ih (b, w)).mp h2
      exact ⟨⟨h1, fun d hd => Nat.lt_trans h1 (h3.1 d hd)⟩, h2⟩
    · rintro ⟨⟨h1, _⟩, h2⟩
      exact ⟨h1, h2⟩

theorem Memory.mem_write {m : List Host.Cell} {a : Nat} {v : Byte} {d : Host.Cell} (h : d ∈ Memory.write m a v) :
    d = (a, v) ∨ d ∈ m := by
  induction m with
  | nil => simpa [Memory.write] using h
  | cons c m ih =>
    obtain ⟨b, w⟩ := c
    simp only [Memory.write] at h
    split at h
    · simpa using h
    · split at h
      · rcases List.mem_cons.mp h with h | h
        · exact .inl h
        · exact .inr (List.mem_cons_of_mem _ h)
      · rcases List.mem_cons.mp h with h | h
        · exact .inr (h ▸ List.mem_cons_self)
        · rcases ih h with h | h
          · exact .inl h
          · exact .inr (List.mem_cons_of_mem _ h)

/-- A store keeps the canonical form. -/
theorem Memory.wf_write (m : List Host.Cell) (a : Nat) (v : Byte) (h : Memory.wf m = true) :
    Memory.wf (Memory.write m a v) = true := by
  induction m with
  | nil => rfl
  | cons c m ih =>
    obtain ⟨b, w⟩ := c
    have hc := (Memory.wf_cons (b, w) m).mp h
    simp only [Memory.write]
    split
    · rename_i hab
      rw [Memory.wf_cons]
      refine ⟨fun d hd => ?_, h⟩
      rcases List.mem_cons.mp hd with rfl | hd
      · exact hab
      · exact Nat.lt_trans hab (hc.1 d hd)
    · split
      · rename_i h1 h2
        subst h2
        rw [Memory.wf_cons]
        exact hc
      · rename_i h1 h2
        rw [Memory.wf_cons]
        refine ⟨fun d hd => ?_, ih hc.2⟩
        rcases Memory.mem_write hd with rfl | hd
        · show b < a; omega
        · exact hc.1 d hd

/-! ## The record of stores -/

theorem mem_insertRising {l : List Nat} {a b : Nat} : b ∈ insertRising l a ↔ b = a ∨ b ∈ l := by
  induction l with
  | nil => simp [insertRising]
  | cons c l ih =>
    simp only [insertRising]
    split
    · simp
    · split
      · rename_i h
        subst h
        simp
      · simp [ih]
        tauto

theorem rising_cons (a : Nat) (l : List Nat) : rising (a :: l) = true ↔ (∀ b ∈ l, a < b) ∧ rising l = true := by
  induction l generalizing a with
  | nil => simp [rising]
  | cons b l ih =>
    simp only [rising, Bool.and_eq_true, decide_eq_true_eq, List.mem_cons, forall_eq_or_imp]
    constructor
    · rintro ⟨h1, h2⟩
      exact ⟨⟨h1, fun d hd => Nat.lt_trans h1 (((ih b).mp h2).1 d hd)⟩, h2⟩
    · rintro ⟨⟨h1, _⟩, h2⟩
      exact ⟨h1, h2⟩

theorem rising_insertRising (l : List Nat) (a : Nat) (h : rising l = true) : rising (insertRising l a) = true := by
  induction l with
  | nil => rfl
  | cons b l ih =>
    have hc := (rising_cons b l).mp h
    simp only [insertRising]
    split
    · rename_i hab
      rw [rising_cons]
      refine ⟨fun d hd => ?_, h⟩
      rcases List.mem_cons.mp hd with rfl | hd
      · exact hab
      · exact Nat.lt_trans hab (hc.1 d hd)
    · split
      · exact h
      · rename_i h1 h2
        rw [rising_cons]
        refine ⟨fun d hd => ?_, ih hc.2⟩
        rcases mem_insertRising.mp hd with rfl | hd
        · omega
        · exact hc.1 d hd

/-! ## Stores of several bytes -/

/-- What a store changes: memory and the record of stores, and nothing else. -/
theorem State.store_eq (s : State) {w : Nat} (l : List Nat) (v : BitVec w) :
    s.store l v = { s with mem := (s.store l v).mem, stored := (s.store l v).stored } := by
  induction l generalizing s v with
  | nil => rfl
  | cons a l ih => simp only [State.store]; rw [ih]; rfl

theorem State.store_wf (s : State) {w : Nat} (l : List Nat) (v : BitVec w) (h : Memory.wf s.mem = true) :
    Memory.wf (s.store l v).mem = true := by
  induction l generalizing s v with
  | nil => exact h
  | cons a l ih => exact ih _ _ (Memory.wf_write _ _ _ h)

theorem State.store_read_other (s : State) {w : Nat} (l : List Nat) (v : BitVec w) (a : Nat) (h : a ∉ l) :
    Memory.read (s.store l v).mem a = Memory.read s.mem a := by
  induction l generalizing s v with
  | nil => rfl
  | cons b l ih =>
    simp only [List.mem_cons, not_or] at h
    simp only [State.store]
    rw [ih _ _ h.2, State.storeByte_mem, Memory.read_write_other _ _ _ _ h.1]

theorem State.mem_store_stored (s : State) {w : Nat} (l : List Nat) (v : BitVec w) (a : Nat) :
    a ∈ (s.store l v).stored ↔ a ∈ l ∨ a ∈ s.stored := by
  induction l generalizing s v with
  | nil => simp [State.store]
  | cons b l ih =>
    simp only [State.store, ih, State.storeByte_stored, mem_insertRising, List.mem_cons]
    tauto

theorem State.store_rising (s : State) {w : Nat} (l : List Nat) (v : BitVec w) (h : rising s.stored = true) :
    rising (s.store l v).stored = true := by
  induction l generalizing s v with
  | nil => exact h
  | cons a l ih => exact ih _ _ (rising_insertRising _ _ h)

/-- The bytes a store leaves, read back as a number: as many low-order bytes of the value as there are addresses. -/
theorem State.leNat_store (s : State) {w : Nat} (l : List Nat) (v : BitVec w) (h : l.Nodup) :
    leNat (l.map fun a => Memory.read (s.store l v).mem a) = v.toNat % 256 ^ l.length := by
  induction l generalizing s v with
  | nil => simp [leNat, Nat.mod_one]
  | cons a l ih =>
    obtain ⟨ha, hl⟩ := List.nodup_cons.mp h
    simp only [List.map_cons, leNat, State.store, List.length_cons]
    rw [ih _ _ hl, State.store_read_other _ _ _ _ ha, State.storeByte_mem, Memory.read_write_same]
    rw [BitVec.toNat_setWidth, BitVec.toNat_ushiftRight, Nat.shiftRight_eq_div_pow]
    show v.toNat % 256 + 256 * (v.toNat / 256 % 256 ^ l.length) = v.toNat % 256 ^ (l.length + 1)
    rw [show 256 ^ (l.length + 1) = 256 * 256 ^ l.length from by rw [Nat.pow_succ, Nat.mul_comm],
      Nat.mod_mul (a := 256)]

/-- Reading back what was stored at addresses without repeats. -/
theorem State.load_store (s : State) {w : Nat} (l : List Nat) (v : BitVec w) (h : l.Nodup) (hw : w ≤ 8 * l.length) :
    (s.store l v).load w l = v := by
  unfold State.load
  rw [State.leNat_store s l v h]
  apply BitVec.eq_of_toNat_eq
  have h1 : v.toNat < 256 ^ l.length := by
    calc v.toNat < 2 ^ w := v.isLt
      _ ≤ 2 ^ (8 * l.length) := Nat.pow_le_pow_right (by decide) hw
      _ = 256 ^ l.length := by rw [Nat.pow_mul]
  rw [Nat.mod_eq_of_lt h1, BitVec.toNat_ofNat, Nat.mod_eq_of_lt v.isLt]

/-! ## Pushes -/

theorem State.storeSlots_eq (s : State) (ps : List (List Nat)) (vs : List DWord) :
    s.storeSlots ps vs = { s with mem := (s.storeSlots ps vs).mem, stored := (s.storeSlots ps vs).stored } := by
  induction ps generalizing s vs with
  | nil => rfl
  | cons p ps ih =>
    cases vs with
    | nil => rfl
    | cons v vs => simp only [State.storeSlots]; rw [ih, State.store_eq]

theorem State.storeSlots_wf (s : State) (ps : List (List Nat)) (vs : List DWord) (h : Memory.wf s.mem = true) :
    Memory.wf (s.storeSlots ps vs).mem = true := by
  induction ps generalizing s vs with
  | nil => exact h
  | cons p ps ih =>
    cases vs with
    | nil => exact h
    | cons v vs => exact ih _ _ (State.store_wf _ _ _ h)

theorem State.storeSlots_read_other (s : State) (ps : List (List Nat)) (vs : List DWord) (a : Nat)
    (h : a ∉ ps.flatten) : Memory.read (s.storeSlots ps vs).mem a = Memory.read s.mem a := by
  induction ps generalizing s vs with
  | nil => rfl
  | cons p ps ih =>
    cases vs with
    | nil => rfl
    | cons v vs =>
      simp only [List.flatten_cons, List.mem_append, not_or] at h
      simp only [State.storeSlots]
      rw [ih _ _ h.2, State.store_read_other _ _ _ _ h.1]

theorem State.storeSlots_stored (s : State) (ps : List (List Nat)) (vs : List DWord) (h : ps.length = vs.length)
    (a : Nat) : a ∈ (s.storeSlots ps vs).stored ↔ a ∈ ps.flatten ∨ a ∈ s.stored := by
  induction ps generalizing s vs with
  | nil => simp [State.storeSlots]
  | cons p ps ih =>
    cases vs with
    | nil => simp at h
    | cons v vs =>
      simp only [State.storeSlots]
      rw [ih _ _ (by simpa using h), State.mem_store_stored, List.flatten_cons, List.mem_append]
      tauto

theorem State.storeSlots_subset (s : State) (ps : List (List Nat)) (vs : List DWord) (a : Nat)
    (h : Memory.read (s.storeSlots ps vs).mem a ≠ Memory.read s.mem a ∨ a ∈ s.stored) :
    a ∈ (s.storeSlots ps vs).stored := by
  induction ps generalizing s vs with
  | nil => exact h.resolve_left (fun hn => hn rfl)
  | cons p ps ih =>
    cases vs with
    | nil => exact h.resolve_left (fun hn => hn rfl)
    | cons v vs =>
      simp only [State.storeSlots] at *
      apply ih
      by_cases ha : a ∈ p
      · exact .inr ((State.mem_store_stored s p v a).mpr (.inl ha))
      · rcases h with h | h
        · exact .inl (by rwa [State.store_read_other _ _ _ _ ha])
        · exact .inr ((State.mem_store_stored s p v a).mpr (.inr h))

theorem State.storeSlots_rising (s : State) (ps : List (List Nat)) (vs : List DWord) (h : rising s.stored = true) :
    rising (s.storeSlots ps vs).stored = true := by
  induction ps generalizing s vs with
  | nil => exact h
  | cons p ps ih =>
    cases vs with
    | nil => exact h
    | cons v vs => exact ih _ _ (State.store_rising _ _ _ h)

end Sys2Proof.Machine
end

