-- ==== Sys2Proof/Laws/Ops.lean ====
section
/-! SUPPORT. What each shared operation can do, said once: the lemmas `…_eq_ok` and `…_eq_next` say exactly when an
operation answers, and with what. -/

namespace Sys2Proof.Machine

/-! ## How a meaning ends -/

@[simp] theorem toOutcome_ok (s : State) : toOutcome (.ok s) = .next s := rfl

@[simp] theorem toOutcome_fault (f : Fault) : toOutcome (.error (.fault f)) = .fault f := rfl

@[simp] theorem toOutcome_refused (r : Refusal) : toOutcome (.error (.refused r)) = .refused r := rfl

theorem toOutcome_eq_next {r : Result State} {t : State} : toOutcome r = .next t ↔ r = .ok t := by
  cases r with
  | ok s => simp
  | error e => cases e <;> simp

theorem toOutcome_eq_fault {r : Result State} {f : Fault} : toOutcome r = .fault f ↔ r = .error (.fault f) := by
  cases r with
  | ok s => simp
  | error e => cases e <;> simp

theorem toOutcome_eq_refused {r : Result State} {f : Refusal} :
    toOutcome r = .refused f ↔ r = .error (.refused f) := by
  cases r with
  | ok s => simp
  | error e => cases e <;> simp

theorem bind_eq_ok {α β : Type} {x : Result α} {f : α → Result β} {b : β} :
    (x >>= f) = .ok b ↔ ∃ a, x = .ok a ∧ f a = .ok b := by
  cases x <;> simp [bind, Except.bind]

theorem bind_eq_error {α β : Type} {x : Result α} {f : α → Result β} {e : Stop} :
    (x >>= f) = .error e ↔ x = .error e ∨ ∃ a, x = .ok a ∧ f a = .error e := by
  cases x <;> simp [bind, Except.bind]

@[simp] theorem ok_bind {α β : Type} (a : α) (f : α → Result β) : ((.ok a : Result α) >>= f) = f a := rfl

@[simp] theorem error_bind {α β : Type} (e : Stop) (f : α → Result β) : ((.error e : Result α) >>= f) = .error e := rfl

@[simp] theorem pure_eq {α : Type} (a : α) : (pure a : Result α) = .ok a := rfl

@[simp] theorem stopIf_false (e : Stop) : stopIf false e = .ok () := rfl

@[simp] theorem stopIf_true (e : Stop) : stopIf true e = .error e := rfl

theorem stopIf_eq_ok {c : Bool} {e : Stop} {u : Unit} : stopIf c e = .ok u ↔ c = false := by
  cases c <;> simp

theorem stopIf_eq_error {c : Bool} {e e' : Stop} : stopIf c e = .error e' ↔ c = true ∧ e = e' := by
  cases c <;> simp

/-! ## NaT bits -/

theorem State.checkNat_eq_ok {s : State} {rs : List Reg} {u : Unit} :
    s.checkNat rs = .ok u ↔ (s.itaniumSE = true → ∀ r ∈ rs, s.nat.get r = false) := by
  simp only [State.checkNat, stopIf_eq_ok]
  cases s.itaniumSE <;> simp

/-! ## Translation and segment-relative access -/

theorem State.translateAll_length {s : State} {k : AccessKind} {l : List DWord} {p : List Nat}
    (h : s.translateAll k l = .ok p) : p.length = l.length := by
  induction l generalizing p with
  | nil => simp only [State.translateAll, Except.ok.injEq] at h; simp [← h]
  | cons a l ih =>
    simp only [State.translateAll, bind_eq_ok, pure_eq, Except.ok.injEq] at h
    obtain ⟨x, _, xs, hxs, rfl⟩ := h
    simp [ih hxs]

/-- Translation, once: the physical address a covered page gives, or the event of the environment (20_memory.md R100,
R108). -/
theorem State.translate_eq_ok {s : State} {k : AccessKind} {la : DWord} {a : Nat} :
    s.translate k la = .ok a ↔
      (∃ p, s.coveredAnswer k (la.toNat / 2 ^ s.cfg.pageShift) = .frame p ∧
        a = p * 2 ^ s.cfg.pageShift + la.toNat % 2 ^ s.cfg.pageShift) ∨
      ((∃ f, s.coveredAnswer k (la.toNat / 2 ^ s.cfg.pageShift) = .fault f) ∧ s.itaniumSE = false ∧
        s.realMode = true ∧ a = la.toNat) := by
  unfold State.translate
  cases s.coveredAnswer k (la.toNat / 2 ^ s.cfg.pageShift) with
  | frame p =>
    simp only [Except.ok.injEq, PageResult.frame.injEq, reduceCtorEq, exists_false, false_and, or_false]
    exact ⟨fun e => ⟨p, rfl, e.symm⟩, fun ⟨_, e, e'⟩ => by rw [e', e]⟩
  | fault f =>
    cases s.itaniumSE <;> cases s.realMode <;> simp
    exact ⟨Eq.symm, Eq.symm⟩

/-- A page that the oracle answers with a populated physical page has it (20_memory.md R108). -/
theorem State.coveredAnswer_eq_frame {s : State} {k : AccessKind} {page p : Nat} :
    s.coveredAnswer k page = .frame p ↔ s.pageAnswer k page = .frame p ∧ mapHolds s.cfg.memory p = true := by
  unfold State.coveredAnswer
  cases s.pageAnswer k page with
  | fault f => simp
  | frame q =>
    cases h : mapHolds s.cfg.memory q with
    | false =>
      simp only [h, Bool.false_eq_true, if_false, PageResult.frame.injEq, reduceCtorEq, false_iff, not_and,
        Bool.not_eq_true]
      rintro rfl
      exact h
    | true =>
      simp only [h, if_true, PageResult.frame.injEq]
      exact ⟨fun e => ⟨e, e ▸ h⟩, fun e => e.1⟩

/-- With no page entry and every physical page populated, translation is the identity. -/
theorem State.translate_identity (s : State) (k : AccessKind) (la : DWord) (h : s.cfg.pages = [])
    (hm : s.cfg.memory.populated = none) : s.translate k la = .ok la.toNat := by
  simp [State.translate, State.coveredAnswer, State.pageAnswer, mapHolds, h, hm, Nat.div_add_mod']

theorem State.translateAll_identity (s : State) (k : AccessKind) (l : List DWord) (h : s.cfg.pages = [])
    (hm : s.cfg.memory.populated = none) : s.translateAll k l = .ok (l.map BitVec.toNat) := by
  induction l with
  | nil => rfl
  | cons a l ih => simp [State.translateAll, State.translate_identity s k a h hm, ih]

/-- When an access is allowed, and where its bytes are (20_memory.md R95). -/
theorem State.segAccess_eq_ok {s : State} {r : SegReg} {a : OpSize} {off : DWord} {items : List Nat} {k : AccessKind}
    {p : List Nat} :
    s.segAccess r a off items k = .ok p ↔
      s.nullSegment r = false ∧ (s.seg r).inLimit off items.sum = true ∧ s.deniedAccess (s.seg r) k = false ∧
      s.checkAlignment (s.seg r) a off k 0 items = .ok () ∧
      s.translateAll k ((s.seg r).linears a off items.sum) = .ok p := by
  simp only [State.segAccess, bind_eq_ok, stopIf_eq_ok, Bool.not_eq_false', exists_const]
  exact ⟨fun ⟨h1, h2, h3, _, h4, h5⟩ => ⟨h1, h2, h3, h4, h5⟩, fun ⟨h1, h2, h3, h4, h5⟩ => ⟨h1, h2, h3, (), h4, h5⟩⟩

theorem State.segAccess_length {s : State} {r : SegReg} {a : OpSize} {off : DWord} {items : List Nat} {k : AccessKind}
    {p : List Nat} (h : s.segAccess r a off items k = .ok p) : p.length = items.sum := by
  have := State.translateAll_length (State.segAccess_eq_ok.mp h).2.2.2.2
  simpa [Segment.linears] using this

theorem State.openPlace_mem {s : State} {w : Nat} {m : MemOp} {k : AccessKind} :
    s.openPlace (.mem m : Place w) k = s.memAccess m [w / 8] k := rfl

/-- A register needs no access, and a memory operand has as many bytes as its width. -/
theorem State.openPlace_length {s : State} {w : Nat} {p : Place w} {k : AccessKind} {addrs : List Nat}
    (h : s.openPlace p k = .ok addrs) : addrs.length = 0 ∨ addrs.length = w / 8 := by
  cases p with
  | r8 r => simp only [State.openPlace, Except.ok.injEq] at h; simp [← h]
  | r16 r => simp only [State.openPlace, Except.ok.injEq] at h; simp [← h]
  | r32 r => simp only [State.openPlace, Except.ok.injEq] at h; simp [← h]
  | mem m => exact .inr (by simpa using State.segAccess_length h)

theorem State.readOperand_eq_ok {s : State} {w : Nat} {o : Operand w} {v : BitVec w} :
    s.readOperand o = .ok v ↔ ∃ addrs, s.openOperand o = .ok addrs ∧ v = s.operand o addrs := by
  simp only [State.readOperand, bind_eq_ok, pure_eq, Except.ok.injEq]
  exact ⟨fun ⟨a, h1, h2⟩ => ⟨a, h1, h2.symm⟩, fun ⟨a, h1, h2⟩ => ⟨a, h1, h2.symm⟩⟩

/-! ## Operands -/

/-- What writing an operand changes: a register, or memory and the record of stores. -/
theorem State.poke_eq (s : State) {w : Nat} (p : Place w) (addrs : List Nat) (v : BitVec w) :
    s.poke p addrs v =
      { s with regs := (s.poke p addrs v).regs, mem := (s.poke p addrs v).mem,
               stored := (s.poke p addrs v).stored } := by
  cases p with
  | r8 r => rfl
  | r16 r => rfl
  | r32 r => rfl
  | mem m => simp only [State.poke]; rw [State.store_eq]

theorem State.poke_wf (s : State) {w : Nat} (p : Place w) (addrs : List Nat) (v : BitVec w)
    (h : Memory.wf s.mem = true) : Memory.wf (s.poke p addrs v).mem = true := by
  cases p with
  | r8 r => exact h
  | r16 r => exact h
  | r32 r => exact h
  | mem m => exact State.store_wf _ _ _ h

theorem State.poke_read_other (s : State) {w : Nat} (p : Place w) (addrs : List Nat) (v : BitVec w) (a : Nat)
    (h : a ∉ addrs) : Memory.read (s.poke p addrs v).mem a = Memory.read s.mem a := by
  cases p with
  | r8 r => rfl
  | r16 r => rfl
  | r32 r => rfl
  | mem m => exact State.store_read_other _ _ _ _ h

theorem byteOf_withByte (old : DWord) (high : Bool) (v : Byte) : byteOf (withByte old high v) high = v := by
  cases high
  · apply BitVec.eq_of_getLsbD_eq; intro i hi
    simp only [byteOf, withByte]
    rw [BitVec.getLsbD_extractLsb', BitVec.getLsbD_append]
    simp [hi]
  · apply BitVec.eq_of_getLsbD_eq; intro i hi
    simp only [byteOf, withByte]
    rw [BitVec.getLsbD_extractLsb', BitVec.getLsbD_append, BitVec.getLsbD_append]
    simp [hi]

theorem byteOf_withByte_other (old : DWord) (high : Bool) (v : Byte) :
    byteOf (withByte old high v) (!high) = byteOf old (!high) := by
  cases high
  · apply BitVec.eq_of_getLsbD_eq; intro i hi
    simp only [byteOf, withByte, Bool.not_false]
    rw [BitVec.getLsbD_extractLsb', BitVec.getLsbD_append]
    simp [hi]
    omega
  · apply BitVec.eq_of_getLsbD_eq; intro i hi
    simp only [byteOf, withByte, Bool.not_true]
    rw [BitVec.getLsbD_extractLsb', BitVec.getLsbD_append]
    simp [hi]

theorem extractLsb'_withWord_high (old : DWord) (v : Word) :
    (withWord old v).extractLsb' 16 16 = old.extractLsb' 16 16 := by
  apply BitVec.eq_of_getLsbD_eq; intro i hi
  rw [BitVec.getLsbD_extractLsb', withWord, BitVec.getLsbD_append]
  simp [hi]

/-- The low word of a register after it is replaced. -/
theorem extractLsb'_withWord (old : DWord) (v : Word) : (withWord old v).extractLsb' 0 16 = v := by
  apply BitVec.eq_of_getLsbD_eq
  intro i hi
  rw [BitVec.getLsbD_extractLsb', withWord, BitVec.getLsbD_append]
  simp [hi]

/-- Reading an operand back after writing it; memory bytes must be distinct. -/
theorem State.peek_poke (s : State) {w : Nat} (p : Place w) (addrs : List Nat) (v : BitVec w) (h : addrs.Nodup)
    (hw : (∃ m, p = .mem m) → w ≤ 8 * addrs.length) : (s.poke p addrs v).peek p addrs = v := by
  cases p with
  | r8 r => simp [State.poke, State.peek, State.reg8, byteOf_withByte]
  | r16 r => simp [State.poke, State.peek, State.reg16, extractLsb'_withWord]
  | r32 r => simp [State.poke, State.peek, State.reg32]
  | mem m => exact State.load_store _ _ _ h (hw ⟨m, rfl⟩)

/-! ## The meanings' shared parts -/

/-- When ADC, ADD and AND complete, and with what. -/
theorem alu_eq_next {op : AluOp} {lock : Bool} {w : Nat} {dst : Place w} {src : Operand w} {s t : State} :
    alu op lock dst src s = .next t ↔
      s.checkNat (dst.regs ++ src.regs) = .ok () ∧ s.checkLockPlace (aluLock op) lock dst = .ok () ∧
      ∃ addrs from_, s.openPlace dst .write = .ok addrs ∧ s.openOperand src = .ok from_ ∧
        t = ((((s.setStatus (aluFlags op (s.peek dst addrs) (s.operand src from_) s.status.cf s.fresh)).drew
          (aluDraws op)).poke dst addrs
          (aluResult op (s.peek dst addrs) (s.operand src from_) s.status.cf))).advance := by
  simp only [alu, toOutcome_eq_next, bind_eq_ok, State.readOperand_eq_ok, pure_eq, Except.ok.injEq]
  constructor
  · rintro ⟨_, h1, _, h2, addrs, h3, b, ⟨f, h4, rfl⟩, rfl⟩
    exact ⟨h1, h2, addrs, f, h3, h4, rfl⟩
  · rintro ⟨h1, h2, addrs, f, h3, h4, rfl⟩
    exact ⟨_, h1, _, h2, addrs, h3, _, ⟨f, h4, rfl⟩, rfl⟩

/-- When CMP completes, and with what. -/
theorem cmp_eq_next {w : Nat} {dst : Place w} {src : Operand w} {s t : State} :
    cmp dst src s = .next t ↔
      s.checkNat (dst.regs ++ src.regs) = .ok () ∧
      ∃ addrs from_, s.openPlace dst .read = .ok addrs ∧ s.openOperand src = .ok from_ ∧
        t = (s.setStatus (subFlags (s.peek dst addrs) (s.operand src from_))).advance := by
  simp only [cmp, toOutcome_eq_next, bind_eq_ok, State.readOperand_eq_ok, pure_eq, Except.ok.injEq]
  constructor
  · rintro ⟨_, h1, a, ⟨g, h2, rfl⟩, b, ⟨f, h3, rfl⟩, rfl⟩
    exact ⟨h1, g, f, h2, h3, rfl⟩
  · rintro ⟨h1, g, f, h2, h3, rfl⟩
    exact ⟨_, h1, _, ⟨g, h2, rfl⟩, _, ⟨f, h3, rfl⟩, rfl⟩

/-- When DEC completes, and with what. -/
theorem dec_eq_next {lock : Bool} {w : Nat} {dst : Place w} {s t : State} :
    dec lock dst s = .next t ↔
      s.checkNat dst.regs = .ok () ∧ s.checkLockPlace .dec lock dst = .ok () ∧
      ∃ addrs, s.openPlace dst .write = .ok addrs ∧
        t = ((s.setStatus (decFlags (s.peek dst addrs) s.status.cf)).poke dst addrs
          (s.peek dst addrs - 1)).advance := by
  simp only [dec, toOutcome_eq_next, bind_eq_ok, pure_eq, Except.ok.injEq]
  constructor
  · rintro ⟨_, h1, _, h2, addrs, h3, rfl⟩
    exact ⟨h1, h2, addrs, h3, rfl⟩
  · rintro ⟨h1, h2, addrs, h3, rfl⟩
    exact ⟨_, h1, _, h2, addrs, h3, rfl⟩

/-- When DIV completes, and with what. -/
theorem div_eq_next {w : Nat} {regs : List Reg} {dividend : State → Nat} {put : BitVec w → BitVec w → State → State}
    {src : Place w} {s t : State} :
    div regs dividend put src s = .next t ↔
      s.checkNat (regs ++ src.regs) = .ok () ∧
      ∃ addrs, s.openPlace src .read = .ok addrs ∧ s.peek src addrs ≠ 0 ∧
        dividend s / (s.peek src addrs).toNat < 2 ^ w ∧
        t = (put (BitVec.ofNat w (dividend s / (s.peek src addrs).toNat))
          (BitVec.ofNat w (dividend s % (s.peek src addrs).toNat))
          ((s.setStatus (freeStatus s.fresh)).drew 1)).advance := by
  simp only [div, toOutcome_eq_next, bind_eq_ok, State.readOperand_eq_ok, stopIf_eq_ok, pure_eq, Except.ok.injEq,
    decide_eq_false_iff_not, Nat.not_le, beq_eq_false_iff_ne]
  constructor
  · rintro ⟨_, h1, v, ⟨a, h2, rfl⟩, _, h3, _, h4, rfl⟩
    exact ⟨h1, a, h2, h3, h4, rfl⟩
  · rintro ⟨h1, a, h2, h3, h4, rfl⟩
    exact ⟨(), h1, _, ⟨a, h2, rfl⟩, (), h3, (), h4, rfl⟩

/-- When BSF and BSR complete, and with what. -/
theorem bitScan_eq_next {w : Nat} {scan : BitVec w → Option Nat} {dst src : Place w} {s t : State} :
    bitScan scan dst src s = .next t ↔
      s.checkNat src.regs = .ok () ∧
      ∃ addrs, s.openPlace src .read = .ok addrs ∧
        t = ((((s.setStatus { freeStatus s.fresh with zf := s.peek src addrs == 0 }).drew 2).poke dst []
          (match scan (s.peek src addrs) with
          | some i => BitVec.ofNat w i
          | none => (s.drew 1).fresh.setWidth w))).advance := by
  simp only [bitScan, toOutcome_eq_next, bind_eq_ok, State.readOperand_eq_ok, pure_eq, Except.ok.injEq]
  constructor
  · rintro ⟨_, h1, v, ⟨a, h2, rfl⟩, rfl⟩
    exact ⟨h1, a, h2, rfl⟩
  · rintro ⟨h1, a, h2, rfl⟩
    exact ⟨_, h1, _, ⟨a, h2, rfl⟩, rfl⟩

/-- When BT, BTC, BTR and BTS complete, and with what. -/
theorem bitTest_eq_next {op : BitOp} {lock : Bool} {w : Nat} {base : Place w} {off : Operand w} {s t : State} :
    bitTest op lock base off s = .next t ↔
      s.checkNat (base.regs ++ off.regs) = .ok () ∧
      ∃ p, s.openBit op lock base (s.operand off []) = .ok p ∧
        t = (((s.setStatus { freeStatus s.fresh with cf := (s.peek base p.1).getLsbD p.2 }).drew 1).pokeBit op base p.1
          (setBit (s.peek base p.1) p.2 (op.newBit ((s.peek base p.1).getLsbD p.2)))).advance := by
  simp only [bitTest, toOutcome_eq_next, bind_eq_ok, pure_eq, Except.ok.injEq]
  constructor
  · rintro ⟨_, h1, p, h2, rfl⟩
    exact ⟨h1, p, h2, rfl⟩
  · rintro ⟨h1, p, h2, rfl⟩
    exact ⟨_, h1, p, h2, rfl⟩

/-- When CMOVcc completes, and with what. -/
theorem cmov_eq_next {c : Cond} {w : Nat} {dst src : Place w} {s t : State} :
    cmov c dst src s = .next t ↔
      s.checkNat (dst.regs ++ src.regs) = .ok () ∧
      ((condition c s.status = true ∧
          ∃ addrs, s.openPlace src .read = .ok addrs ∧ t = (s.poke dst [] (s.peek src addrs)).advance) ∨
        (condition c s.status = false ∧ ∃ u, cmovFalse src s = .ok u ∧ t = u.advance)) := by
  simp only [cmov, toOutcome_eq_next, bind_eq_ok]
  constructor
  · rintro ⟨_, h1, h2⟩
    refine ⟨h1, ?_⟩
    cases hc : condition c s.status with
    | true =>
      rw [hc] at h2
      simp only [bind_eq_ok, State.readOperand_eq_ok, pure_eq, Except.ok.injEq] at h2
      obtain ⟨v, ⟨a, h3, rfl⟩, rfl⟩ := h2
      exact .inl ⟨rfl, a, h3, rfl⟩
    | false =>
      rw [hc] at h2
      simp only [bind_eq_ok, pure_eq, Except.ok.injEq] at h2
      obtain ⟨u, h3, rfl⟩ := h2
      exact .inr ⟨rfl, u, h3, rfl⟩
  · rintro ⟨h1, ⟨hc, a, h3, rfl⟩ | ⟨hc, u, h3, rfl⟩⟩
    · refine ⟨_, h1, ?_⟩
      rw [hc]
      simp only [bind_eq_ok, State.readOperand_eq_ok, pure_eq, Except.ok.injEq]
      exact ⟨_, ⟨a, h3, rfl⟩, rfl⟩
    · refine ⟨_, h1, ?_⟩
      rw [hc]
      simp only [bind_eq_ok, pure_eq, Except.ok.injEq]
      exact ⟨u, h3, rfl⟩

/-- A CMOVcc whose condition is false changes at most the count of free values. -/
theorem cmovFalse_eq {w : Nat} {src : Place w} {s u : State} (h : cmovFalse src s = .ok u) :
    u = { s with draws := u.draws } := by
  have hd : s.cmovDrew = { s with draws := s.cmovDrew.draws } := by
    unfold State.cmovDrew
    split <;> rfl
  cases src with
  | r8 r => cases h; rfl
  | r16 r => cases h; rfl
  | r32 r => cases h; rfl
  | mem m =>
    simp only [cmovFalse] at h
    split at h
    · simp only [bind_eq_ok, pure_eq, Except.ok.injEq] at h
      obtain ⟨_, _, rfl⟩ := h
      exact hd
    · cases h
      exact hd

/-- When CMPS completes, and with what. -/
theorem cmps_eq_next {w : Nat} {a : OpSize} {seg : SegReg} {s t : State} :
    cmps w a seg s = .next t ↔
      s.checkNat [.esi, .edi] = .ok () ∧
      ∃ p q, s.segAccess seg a (s.index a .esi) [w / 8] .read = .ok p ∧
        s.segAccess .es a (s.index a .edi) [w / 8] .read = .ok q ∧
        t = (((s.setStatus (subFlags (s.load w p) (s.load w q))).stepIndex a .esi (w / 8)).stepIndex a .edi
          (w / 8)).advance := by
  simp only [cmps, toOutcome_eq_next, bind_eq_ok, pure_eq, Except.ok.injEq]
  constructor
  · rintro ⟨_, h1, p, h2, q, h3, rfl⟩
    exact ⟨h1, p, q, h2, h3, rfl⟩
  · rintro ⟨h1, p, q, h2, h3, rfl⟩
    exact ⟨_, h1, p, h2, q, h3, rfl⟩

/-- When CMPXCHG completes, and with what. -/
theorem cmpxchg_eq_next {lock : Bool} {w : Nat} {acc dst src : Place w} {s t : State} :
    cmpxchg lock acc dst src s = .next t ↔
      s.checkNat (acc.regs ++ dst.regs ++ src.regs) = .ok () ∧ s.checkLockPlace .cmpxchg lock dst = .ok () ∧
      ∃ addrs, s.openPlace dst .write = .ok addrs ∧
        t = ((((s.setStatus (subFlags (s.peek acc []) (s.peek dst addrs))).poke acc [] (s.peek dst addrs)).poke dst addrs
          (if s.peek acc [] = s.peek dst addrs then s.peek src [] else s.peek dst addrs))).advance := by
  simp only [cmpxchg, toOutcome_eq_next, bind_eq_ok, pure_eq, Except.ok.injEq]
  constructor
  · rintro ⟨_, h1, _, h2, addrs, h3, rfl⟩
    exact ⟨h1, h2, addrs, h3, rfl⟩
  · rintro ⟨h1, h2, addrs, h3, rfl⟩
    exact ⟨_, h1, _, h2, addrs, h3, rfl⟩

/-- When BOUND completes, and with what. -/
theorem bound_eq_next {w : Nat} {index : Place w} {m : MemOp} {s t : State} :
    bound index m s = .next t ↔
      s.checkNat (index.regs ++ m.ea.regs) = .ok () ∧
      ∃ addrs, s.memAccess m [w / 8, w / 8] .read = .ok addrs ∧
        outOfBounds (s.peek index []).toInt (s.load w (addrs.take (w / 8))).toInt
          (s.load w (addrs.drop (w / 8))).toInt (boundSlack s.cfg.boundSlack (w / 8)) = false ∧
        t = s.advance := by
  simp only [bound, toOutcome_eq_next, bind_eq_ok, stopIf_eq_ok, pure_eq, Except.ok.injEq]
  constructor
  · rintro ⟨_, h1, addrs, h2, _, h3, rfl⟩
    exact ⟨h1, addrs, h2, h3, rfl⟩
  · rintro ⟨h1, addrs, h2, h3, rfl⟩
    exact ⟨(), h1, addrs, h2, (), h3, rfl⟩

/-! ## Calls -/

theorem finishCall_eq_ok {s t : State} : finishCall s = .ok t ↔ (s.itaniumSE && s.psr.tb) = false ∧ t = s := by
  unfold finishCall
  split
  · rename_i h
    simp [h]
  · rename_i h
    simp only [Except.ok.injEq, Bool.not_eq_true] at *
    simp [h, eq_comm]

/-- When a near call completes, and with what. -/
theorem nearCall_eq_ok {n : OpSize} {target : DWord} {s t : State} :
    nearCall n target s = .ok t ↔
      target.toNat ≤ s.segs.cs.limit.toNat ∧ s.segs.ss.hasRoom n.bytes (s.slots n 1) = true ∧
      ∃ addrs, s.openSlots n.bytes (s.slots n 1) = .ok addrs ∧
        finishCall ((s.pushed (s.slots n 1) addrs [s.nextPc]).setPc target) = .ok t := by
  simp [nearCall, bind_eq_ok, stopIf_eq_ok]

/-- When a far call in real-address or virtual-8086 mode completes, and with what. -/
theorem farReal_eq_ok {n : OpSize} {sel : Word} {off : DWord} {s t : State} :
    farReal n sel off s = .ok t ↔
      s.segs.ss.hasRoom n.bytes (s.slots n 2) = true ∧ (n.wrap off).toNat ≤ (s.segs.cs.loadReal sel).limit.toNat ∧
      ∃ addrs, s.openSlots n.bytes (s.slots n 2) = .ok addrs ∧
        finishCall ((((s.pushed (s.slots n 2) addrs s.farReturn).setCs (s.segs.cs.loadReal sel)).setPc
          (n.wrap off)).drew 1) = .ok t := by
  constructor
  · intro h
    obtain ⟨_, h1, h⟩ := bind_eq_ok.mp h
    obtain ⟨_, h2, h⟩ := bind_eq_ok.mp h
    obtain ⟨addrs, h3, h⟩ := bind_eq_ok.mp h
    exact ⟨by simpa [stopIf_eq_ok] using h1, Nat.not_lt.mp (of_decide_eq_false (stopIf_eq_ok.mp h2)), addrs, h3, h⟩
  · rintro ⟨h1, h2, addrs, h3, h⟩
    refine bind_eq_ok.mpr ⟨(), stopIf_eq_ok.mpr (by simp [h1]), bind_eq_ok.mpr ⟨(), stopIf_eq_ok.mpr ?_, ?_⟩⟩
    · exact decide_eq_false (Nat.not_lt.mpr h2)
    · exact bind_eq_ok.mpr ⟨addrs, h3, h⟩

/-- When a call to a segment at the same privilege level completes, and with what. -/
theorem callSegment_eq_ok {n : OpSize} {sel : Word} {d : QWord} {target : DWord} {s t : State} :
    callSegment n sel d target s = .ok t ↔
      s.segs.ss.hasRoom n.bytes (s.slots n 2) = true ∧ target.toNat ≤ (descLimit d).toNat ∧
      ∃ addrs, s.openSlots n.bytes (s.slots n 2) = .ok addrs ∧
        t = (((s.pushed (s.slots n 2) addrs s.farReturn).setCs
          (Segment.ofDescriptor (withRpl sel s.cpl) d)).setPc target).drew 1 := by
  constructor
  · intro h
    obtain ⟨_, h1, h⟩ := bind_eq_ok.mp h
    obtain ⟨_, h2, h⟩ := bind_eq_ok.mp h
    obtain ⟨addrs, h3, h⟩ := bind_eq_ok.mp h
    exact ⟨by simpa [stopIf_eq_ok] using h1, Nat.not_lt.mp (of_decide_eq_false (stopIf_eq_ok.mp h2)), addrs, h3,
      (Except.ok.inj h).symm⟩
  · rintro ⟨h1, h2, addrs, h3, rfl⟩
    refine bind_eq_ok.mpr ⟨(), stopIf_eq_ok.mpr (by simp [h1]), bind_eq_ok.mpr ⟨(), stopIf_eq_ok.mpr ?_, ?_⟩⟩
    · exact decide_eq_false (Nat.not_lt.mpr h2)
    · exact bind_eq_ok.mpr ⟨addrs, h3, rfl⟩

theorem State.openSlots_length {s : State} {n : Nat} {l : List DWord} {p : List (List Nat)}
    (h : s.openSlots n l = .ok p) : p.length = l.length ∧ ∀ q ∈ p, q.length = n := by
  induction l generalizing p with
  | nil => simp only [State.openSlots, Except.ok.injEq] at h; simp [← h]
  | cons a l ih =>
    simp only [State.openSlots, bind_eq_ok, pure_eq, Except.ok.injEq] at h
    obtain ⟨x, hx, xs, hxs, rfl⟩ := h
    have := State.segAccess_length hx
    simp_all

/-- What moving the stack pointer changes. -/
theorem State.setSp_eq (s : State) (a : OpSize) (v : DWord) : s.setSp a v = { s with regs := (s.setSp a v).regs } := by
  cases a <;> rfl

/-- What pushing changes: ESP, memory and the record of stores. -/
theorem State.pushed_eq (s : State) (slots : List DWord) (addrs : List (List Nat)) (vals : List DWord) :
    s.pushed slots addrs vals =
      { s with regs := (s.pushed slots addrs vals).regs, mem := (s.storeSlots addrs vals).mem,
               stored := (s.storeSlots addrs vals).stored } := by
  unfold State.pushed
  rw [State.setSp_eq, State.storeSlots_eq]

/-- The stack pointer after pushing, and every other register as before. -/
theorem State.pushed_regs (s : State) (slots : List DWord) (addrs : List (List Nat)) (vals : List DWord) :
    (s.pushed slots addrs vals).regs =
      s.regs.set .esp (match s.stackSize with
        | .s16 => withWord s.regs.esp ((slots.getLastD s.sp).extractLsb' 0 16)
        | .s32 => slots.getLastD s.sp) := by
  unfold State.pushed
  rw [State.storeSlots_eq]
  cases s.stackSize <;> rfl

/-! ## CPUID -/

/-- A bit of the mask takes the free value, any other keeps its own. -/
theorem maskedBits_getLsbD (mask free v : DWord) (k : Nat) (h : k < 32) :
    (maskedBits mask free v).getLsbD k = if mask.getLsbD k then free.getLsbD k else v.getLsbD k := by
  have full : (0xFFFFFFFF : DWord).getLsbD k = true := by
    have e : (0xFFFFFFFF : DWord) = BitVec.allOnes 32 := rfl
    rw [e, BitVec.getLsbD_allOnes]
    exact decide_eq_true h
  unfold maskedBits
  split
  · simp_all
  · split
    · simp_all
    · rw [BitVec.getLsbD_or, BitVec.getLsbD_and, BitVec.getLsbD_and, BitVec.getLsbD_not]
      cases mask.getLsbD k <;> simp [h]

/-! ## The step -/

theorem complete_eq_next {o : Host.Outcome State Fault Refusal} {t : State} :
    complete o = .next t ↔ ∃ u, o = .next u ∧ t = u.entered := by
  unfold complete
  split <;> simp [eq_comm]

end Sys2Proof.Machine
end

