-- ==== Sys2Proof/Tests/Slice0.lean ====
section
/-! SUPPORT. The model's own tests: ill-formed terms, every constructor's decoding from bytes written out from the
spec's encodings, one step at a time against the vectors of 95_test_vectors.md, and a witness for every obligation with
hypotheses. -/

namespace Sys2Proof.Tests

open Sys2Proof Sys2Proof.Machine Sys2Proof.Claims

/-! ## Ill-formed terms -/

/-- ESP as an index, which no SIB byte encodes (30_encoding.md R125). -/
def espIndex : MemOp := { seg := .ds, ea := .a32 none (some (.esp, 0)) 0 }

/-- Every check of a memory operand refuses ESP as an index (30_encoding.md R125). -/
theorem test_esp_index_refused_1 :
    ([
      .adcRm8Ib false (.mem espIndex) 0, .adcRm16Iw false (.mem espIndex) 0,
      .adcRm32Id false (.mem espIndex) 0, .adcRm16Ib false (.mem espIndex) 0,
      .adcRm32Ib false (.mem espIndex) 0, .adcRm8R8 false (.mem espIndex) .cl,
      .adcRm16R16 false (.mem espIndex) .ecx, .adcRm32R32 false (.mem espIndex) .ecx,
      .adcR8Rm8 .cl (.mem espIndex), .adcR16Rm16 .ecx (.mem espIndex), .adcR32Rm32 .ecx (.mem espIndex),
      .addRm8Ib false (.mem espIndex) 0, .addRm16Iw false (.mem espIndex) 0,
      .addRm32Id false (.mem espIndex) 0, .addRm16Ib false (.mem espIndex) 0,
      .addRm32Ib false (.mem espIndex) 0, .addRm8R8 false (.mem espIndex) .cl,
      .addRm16R16 false (.mem espIndex) .ecx, .addRm32R32 false (.mem espIndex) .ecx,
      .addR8Rm8 .cl (.mem espIndex), .addR16Rm16 .ecx (.mem espIndex), .addR32Rm32 .ecx (.mem espIndex),
      .andRm8Ib false (.mem espIndex) 0, .andRm16Iw false (.mem espIndex) 0,
      .andRm32Id false (.mem espIndex) 0, .andRm16Ib false (.mem espIndex) 0,
      .andRm32Ib false (.mem espIndex) 0, .andRm8R8 false (.mem espIndex) .cl,
      .andRm16R16 false (.mem espIndex) .ecx, .andRm32R32 false (.mem espIndex) .ecx,
      .andR8Rm8 .cl (.mem espIndex), .andR16Rm16 .ecx (.mem espIndex), .andR32Rm32 .ecx (.mem espIndex),
      .arpl (.mem espIndex) .ecx, .boundR16 .ecx espIndex, .boundR32 .ecx espIndex,
      .bsfR16Rm16 .ecx (.mem espIndex), .bsfR32Rm32 .ecx (.mem espIndex), .bsrR16Rm16 .ecx (.mem espIndex),
      .bsrR32Rm32 .ecx (.mem espIndex), .btRm16R16 (.mem espIndex) .ecx, .btRm32R32 (.mem espIndex) .ecx,
      .btRm16Ib (.mem espIndex) 0, .btRm32Ib (.mem espIndex) 0, .btcRm16R16 false (.mem espIndex) .ecx,
      .btcRm32R32 false (.mem espIndex) .ecx, .btcRm16Ib false (.mem espIndex) 0,
      .btcRm32Ib false (.mem espIndex) 0, .btrRm16R16 false (.mem espIndex) .ecx,
      .btrRm32R32 false (.mem espIndex) .ecx] : List Instr).all (fun i => !i.wellFormed) = true := by
  decide

/-- Every check of a memory operand refuses ESP as an index (30_encoding.md R125). -/
theorem test_esp_index_refused_2 :
    ([
      .btrRm16Ib false (.mem espIndex) 0, .btrRm32Ib false (.mem espIndex) 0,
      .btsRm16R16 false (.mem espIndex) .ecx, .btsRm32R32 false (.mem espIndex) .ecx,
      .btsRm16Ib false (.mem espIndex) 0, .btsRm32Ib false (.mem espIndex) 0, .callRm16 (.mem espIndex),
      .callRm32 (.mem espIndex), .callM16x16 espIndex, .callM16x32 espIndex, .cmovO16 .ecx (.mem espIndex),
      .cmovO32 .ecx (.mem espIndex), .cmovNo16 .ecx (.mem espIndex), .cmovNo32 .ecx (.mem espIndex),
      .cmovB16 .ecx (.mem espIndex), .cmovB32 .ecx (.mem espIndex), .cmovAe16 .ecx (.mem espIndex),
      .cmovAe32 .ecx (.mem espIndex), .cmovE16 .ecx (.mem espIndex), .cmovE32 .ecx (.mem espIndex),
      .cmovNe16 .ecx (.mem espIndex), .cmovNe32 .ecx (.mem espIndex), .cmovBe16 .ecx (.mem espIndex),
      .cmovBe32 .ecx (.mem espIndex), .cmovA16 .ecx (.mem espIndex), .cmovA32 .ecx (.mem espIndex),
      .cmovS16 .ecx (.mem espIndex), .cmovS32 .ecx (.mem espIndex), .cmovNs16 .ecx (.mem espIndex),
      .cmovNs32 .ecx (.mem espIndex), .cmovP16 .ecx (.mem espIndex), .cmovP32 .ecx (.mem espIndex),
      .cmovNp16 .ecx (.mem espIndex), .cmovNp32 .ecx (.mem espIndex), .cmovL16 .ecx (.mem espIndex),
      .cmovL32 .ecx (.mem espIndex), .cmovGe16 .ecx (.mem espIndex), .cmovGe32 .ecx (.mem espIndex),
      .cmovLe16 .ecx (.mem espIndex), .cmovLe32 .ecx (.mem espIndex), .cmovG16 .ecx (.mem espIndex),
      .cmovG32 .ecx (.mem espIndex), .cmpRm8Ib (.mem espIndex) 0, .cmpRm16Iw (.mem espIndex) 0,
      .cmpRm32Id (.mem espIndex) 0, .cmpRm16Ib (.mem espIndex) 0, .cmpRm32Ib (.mem espIndex) 0,
      .cmpRm8R8 (.mem espIndex) .cl, .cmpRm16R16 (.mem espIndex) .ecx, .cmpRm32R32 (.mem espIndex) .ecx] : List Instr).all (fun i => !i.wellFormed) = true := by
  decide

/-- Every check of a memory operand refuses ESP as an index (30_encoding.md R125). -/
theorem test_esp_index_refused_3 :
    ([
      .cmpR8Rm8 .cl (.mem espIndex), .cmpR16Rm16 .ecx (.mem espIndex), .cmpR32Rm32 .ecx (.mem espIndex),
      .cmpxchgRm8R8 false (.mem espIndex) .cl, .cmpxchgRm16R16 false (.mem espIndex) .ecx,
      .cmpxchgRm32R32 false (.mem espIndex) .ecx, .cmpxchg8b false espIndex, .decRm8 false (.mem espIndex),
      .decRm16 false (.mem espIndex), .decRm32 false (.mem espIndex), .divRm8 (.mem espIndex),
      .divRm16 (.mem espIndex), .divRm32 (.mem espIndex)] : List Instr).all (fun i => !i.wellFormed) = true := by
  decide


/-- Every check of a LOCK prefix refuses a register destination (20_memory.md R107). -/
theorem test_locked_register_refused :
    ([
      .adcRm8Ib true (.reg .al) 0, .adcRm16Iw true (.reg .eax) 0, .adcRm32Id true (.reg .eax) 0,
      .adcRm16Ib true (.reg .eax) 0, .adcRm32Ib true (.reg .eax) 0, .adcRm8R8 true (.reg .al) .cl,
      .adcRm16R16 true (.reg .eax) .ecx, .adcRm32R32 true (.reg .eax) .ecx, .addRm8Ib true (.reg .al) 0,
      .addRm16Iw true (.reg .eax) 0, .addRm32Id true (.reg .eax) 0, .addRm16Ib true (.reg .eax) 0,
      .addRm32Ib true (.reg .eax) 0, .addRm8R8 true (.reg .al) .cl, .addRm16R16 true (.reg .eax) .ecx,
      .addRm32R32 true (.reg .eax) .ecx, .andRm8Ib true (.reg .al) 0, .andRm16Iw true (.reg .eax) 0,
      .andRm32Id true (.reg .eax) 0, .andRm16Ib true (.reg .eax) 0, .andRm32Ib true (.reg .eax) 0,
      .andRm8R8 true (.reg .al) .cl, .andRm16R16 true (.reg .eax) .ecx, .andRm32R32 true (.reg .eax) .ecx,
      .btcRm16R16 true (.reg .eax) .ecx, .btcRm32R32 true (.reg .eax) .ecx, .btcRm16Ib true (.reg .eax) 0,
      .btcRm32Ib true (.reg .eax) 0, .btrRm16R16 true (.reg .eax) .ecx, .btrRm32R32 true (.reg .eax) .ecx,
      .btrRm16Ib true (.reg .eax) 0, .btrRm32Ib true (.reg .eax) 0, .btsRm16R16 true (.reg .eax) .ecx,
      .btsRm32R32 true (.reg .eax) .ecx, .btsRm16Ib true (.reg .eax) 0, .btsRm32Ib true (.reg .eax) 0,
      .cmpxchgRm8R8 true (.reg .al) .cl, .cmpxchgRm16R16 true (.reg .eax) .ecx,
      .cmpxchgRm32R32 true (.reg .eax) .ecx, .decRm8 true (.reg .al), .decRm16 true (.reg .eax),
      .decRm32 true (.reg .eax)] : List Instr).all (fun i => !i.wellFormed) = true := by
  decide


/-- The checks accept what they should. -/
theorem test_well_formed_accepted :
    (Instr.addRm32R32 true (.mem { seg := .ds, ea := .a32 none (some (.ebp, 3)) 0 }) .eax).wellFormed = true ∧
    (Instr.addRm32R32 false (.reg .esp) .esp).wellFormed = true ∧ Instr.cpuid.wellFormed = true := by
  decide

/-! ## Decoding: bytes written out from the encodings of 30_encoding.md R121 to R139 -/

/-- Whether each list of bytes decodes to its instruction, with no byte left. -/
def decodes (d : OpSize) (rows : List (List Byte × Instr)) : Bool :=
  rows.all fun p => decide (decode d p.1 = .done p.2 [])

/-- The fourteen forms of ADC (41_integer_arith_logic.md R180, R190). -/
theorem test_decode_adc :
    decodes .s32 [
      ([0x14, 0x80], .adcAlIb 0x80),
      ([0x66, 0x15, 0x34, 0x12], .adcAxIw 0x1234),
      ([0x15, 0x78, 0x56, 0x34, 0x12], .adcEaxId 0x12345678),
      ([0x80, 0xD3, 0x7F], .adcRm8Ib false (.reg .bl) 0x7F),
      ([0x66, 0x81, 0x13, 0x34, 0x12], .adcRm16Iw false (.mem { seg := .ds, ea := .a32 (some .ebx) none 0 }) 0x1234),
      ([0x81, 0xD3, 0x78, 0x56, 0x34, 0x12], .adcRm32Id false (.reg .ebx) 0x12345678),
      ([0x66, 0x83, 0xD3, 0xFE], .adcRm16Ib false (.reg .ebx) 0xFE),
      ([0x83, 0x13, 0xFE], .adcRm32Ib false (.mem { seg := .ds, ea := .a32 (some .ebx) none 0 }) 0xFE),
      ([0x10, 0xEB], .adcRm8R8 false (.reg .bl) .ch),
      ([0x66, 0x11, 0xEB], .adcRm16R16 false (.reg .ebx) .ebp),
      ([0x11, 0xEB], .adcRm32R32 false (.reg .ebx) .ebp),
      ([0x12, 0xEB], .adcR8Rm8 .ch (.reg .bl)),
      ([0x66, 0x13, 0x2B], .adcR16Rm16 .ebp (.mem { seg := .ds, ea := .a32 (some .ebx) none 0 })),
      ([0x13, 0xEB], .adcR32Rm32 .ebp (.reg .ebx)),
      ([0xF0, 0x11, 0x2B], .adcRm32R32 true (.mem { seg := .ds, ea := .a32 (some .ebx) none 0 }) .ebp)] = true := by
  decide

/-- The fourteen forms of ADD (41_integer_arith_logic.md R180, R191). -/
theorem test_decode_add :
    decodes .s32 [
      ([0x04, 0x80], .addAlIb 0x80),
      ([0x66, 0x05, 0x34, 0x12], .addAxIw 0x1234),
      ([0x05, 0x78, 0x56, 0x34, 0x12], .addEaxId 0x12345678),
      ([0x80, 0xC3, 0x7F], .addRm8Ib false (.reg .bl) 0x7F),
      ([0x66, 0x81, 0x03, 0x34, 0x12], .addRm16Iw false (.mem { seg := .ds, ea := .a32 (some .ebx) none 0 }) 0x1234),
      ([0x81, 0xC3, 0x78, 0x56, 0x34, 0x12], .addRm32Id false (.reg .ebx) 0x12345678),
      ([0x66, 0x83, 0xC3, 0xFE], .addRm16Ib false (.reg .ebx) 0xFE),
      ([0x83, 0x03, 0xFE], .addRm32Ib false (.mem { seg := .ds, ea := .a32 (some .ebx) none 0 }) 0xFE),
      ([0x00, 0xEB], .addRm8R8 false (.reg .bl) .ch),
      ([0x66, 0x01, 0xEB], .addRm16R16 false (.reg .ebx) .ebp),
      ([0x01, 0xEB], .addRm32R32 false (.reg .ebx) .ebp),
      ([0x02, 0xEB], .addR8Rm8 .ch (.reg .bl)),
      ([0x66, 0x03, 0x2B], .addR16Rm16 .ebp (.mem { seg := .ds, ea := .a32 (some .ebx) none 0 })),
      ([0x03, 0xEB], .addR32Rm32 .ebp (.reg .ebx)),
      ([0xF0, 0x01, 0x2B], .addRm32R32 true (.mem { seg := .ds, ea := .a32 (some .ebx) none 0 }) .ebp)] = true := by
  decide

/-- The fourteen forms of AND (41_integer_arith_logic.md R180, R192). -/
theorem test_decode_and :
    decodes .s32 [
      ([0x24, 0x80], .andAlIb 0x80),
      ([0x66, 0x25, 0x34, 0x12], .andAxIw 0x1234),
      ([0x25, 0x78, 0x56, 0x34, 0x12], .andEaxId 0x12345678),
      ([0x80, 0xE3, 0x7F], .andRm8Ib false (.reg .bl) 0x7F),
      ([0x66, 0x81, 0x23, 0x34, 0x12], .andRm16Iw false (.mem { seg := .ds, ea := .a32 (some .ebx) none 0 }) 0x1234),
      ([0x81, 0xE3, 0x78, 0x56, 0x34, 0x12], .andRm32Id false (.reg .ebx) 0x12345678),
      ([0x66, 0x83, 0xE3, 0xFE], .andRm16Ib false (.reg .ebx) 0xFE),
      ([0x83, 0x23, 0xFE], .andRm32Ib false (.mem { seg := .ds, ea := .a32 (some .ebx) none 0 }) 0xFE),
      ([0x20, 0xEB], .andRm8R8 false (.reg .bl) .ch),
      ([0x66, 0x21, 0xEB], .andRm16R16 false (.reg .ebx) .ebp),
      ([0x21, 0xEB], .andRm32R32 false (.reg .ebx) .ebp),
      ([0x22, 0xEB], .andR8Rm8 .ch (.reg .bl)),
      ([0x66, 0x23, 0x2B], .andR16Rm16 .ebp (.mem { seg := .ds, ea := .a32 (some .ebx) none 0 })),
      ([0x23, 0xEB], .andR32Rm32 .ebp (.reg .ebx)),
      ([0xF0, 0x21, 0x2B], .andRm32R32 true (.mem { seg := .ds, ea := .a32 (some .ebx) none 0 }) .ebp)] = true := by
  decide

/-- The fourteen forms of CMP (41_integer_arith_logic.md R180, R193). -/
theorem test_decode_cmp :
    decodes .s32 [
      ([0x3C, 0x80], .cmpAlIb 0x80),
      ([0x66, 0x3D, 0x34, 0x12], .cmpAxIw 0x1234),
      ([0x3D, 0x78, 0x56, 0x34, 0x12], .cmpEaxId 0x12345678),
      ([0x80, 0xFB, 0x7F], .cmpRm8Ib (.reg .bl) 0x7F),
      ([0x66, 0x81, 0x3B, 0x34, 0x12], .cmpRm16Iw (.mem { seg := .ds, ea := .a32 (some .ebx) none 0 }) 0x1234),
      ([0x81, 0xFB, 0x78, 0x56, 0x34, 0x12], .cmpRm32Id (.reg .ebx) 0x12345678),
      ([0x66, 0x83, 0xFB, 0xFE], .cmpRm16Ib (.reg .ebx) 0xFE),
      ([0x83, 0x3B, 0xFE], .cmpRm32Ib (.mem { seg := .ds, ea := .a32 (some .ebx) none 0 }) 0xFE),
      ([0x38, 0xEB], .cmpRm8R8 (.reg .bl) .ch),
      ([0x66, 0x39, 0xEB], .cmpRm16R16 (.reg .ebx) .ebp),
      ([0x39, 0xEB], .cmpRm32R32 (.reg .ebx) .ebp),
      ([0x3A, 0xEB], .cmpR8Rm8 .ch (.reg .bl)),
      ([0x66, 0x3B, 0x2B], .cmpR16Rm16 .ebp (.mem { seg := .ds, ea := .a32 (some .ebx) none 0 })),
      ([0x3B, 0xEB], .cmpR32Rm32 .ebp (.reg .ebx))] = true := by
  decide

/-- 40_bcd_adjust.md R170 to R175. -/
theorem test_decode_decimal :
    decodes .s32 [
      ([0x37], .aaa),
      ([0xD5, 0x10], .aad 0x10),
      ([0xD4, 0x0A], .aam 0x0A),
      ([0x3F], .aas),
      ([0x27], .daa),
      ([0x2F], .das)] = true := by
  decide

/-- 42_protection_bounds.md R221, R223. -/
theorem test_decode_protection :
    decodes .s32 [
      ([0x63, 0x0B], .arpl (.mem { seg := .ds, ea := .a32 (some .ebx) none 0 }) .ecx),
      ([0x66, 0x62, 0x03], .boundR16 .eax { seg := .ds, ea := .a32 (some .ebx) none 0 }),
      ([0x62, 0x03], .boundR32 .eax { seg := .ds, ea := .a32 (some .ebx) none 0 })] = true := by
  decide

/-- 43_bit_scan_test.md R230, R231, R233. -/
theorem test_decode_scan :
    decodes .s32 [
      ([0x66, 0x0F, 0xBC, 0xC3], .bsfR16Rm16 .eax (.reg .ebx)),
      ([0x0F, 0xBC, 0xC3], .bsfR32Rm32 .eax (.reg .ebx)),
      ([0x66, 0x0F, 0xBD, 0xC3], .bsrR16Rm16 .eax (.reg .ebx)),
      ([0x0F, 0xBD, 0x03], .bsrR32Rm32 .eax (.mem { seg := .ds, ea := .a32 (some .ebx) none 0 })),
      ([0x66, 0x0F, 0xC8], .bswap .s16 .eax),
      ([0x0F, 0xCF], .bswap .s32 .edi)] = true := by
  decide

/-- 43_bit_scan_test.md R239 to R242. -/
theorem test_decode_bit_tests :
    decodes .s32 [
      ([0x66, 0x0F, 0xA3, 0xC8], .btRm16R16 (.reg .eax) .ecx),
      ([0x0F, 0xA3, 0x0B], .btRm32R32 (.mem { seg := .ds, ea := .a32 (some .ebx) none 0 }) .ecx),
      ([0x66, 0x0F, 0xBA, 0xE0, 0x15], .btRm16Ib (.reg .eax) 0x15),
      ([0x0F, 0xBA, 0x23, 0x25], .btRm32Ib (.mem { seg := .ds, ea := .a32 (some .ebx) none 0 }) 0x25),
      ([0x66, 0x0F, 0xBB, 0xC8], .btcRm16R16 false (.reg .eax) .ecx),
      ([0x0F, 0xBB, 0x0B], .btcRm32R32 false (.mem { seg := .ds, ea := .a32 (some .ebx) none 0 }) .ecx),
      ([0x66, 0x0F, 0xBA, 0xF8, 0x15], .btcRm16Ib false (.reg .eax) 0x15),
      ([0x0F, 0xBA, 0x3B, 0x25], .btcRm32Ib false (.mem { seg := .ds, ea := .a32 (some .ebx) none 0 }) 0x25),
      ([0xF0, 0x0F, 0xBB, 0x0B], .btcRm32R32 true (.mem { seg := .ds, ea := .a32 (some .ebx) none 0 }) .ecx),
      ([0x66, 0x0F, 0xB3, 0xC8], .btrRm16R16 false (.reg .eax) .ecx),
      ([0x0F, 0xB3, 0x0B], .btrRm32R32 false (.mem { seg := .ds, ea := .a32 (some .ebx) none 0 }) .ecx),
      ([0x66, 0x0F, 0xBA, 0xF0, 0x15], .btrRm16Ib false (.reg .eax) 0x15),
      ([0x0F, 0xBA, 0x33, 0x25], .btrRm32Ib false (.mem { seg := .ds, ea := .a32 (some .ebx) none 0 }) 0x25),
      ([0xF0, 0x0F, 0xB3, 0x0B], .btrRm32R32 true (.mem { seg := .ds, ea := .a32 (some .ebx) none 0 }) .ecx),
      ([0x66, 0x0F, 0xAB, 0xC8], .btsRm16R16 false (.reg .eax) .ecx),
      ([0x0F, 0xAB, 0x0B], .btsRm32R32 false (.mem { seg := .ds, ea := .a32 (some .ebx) none 0 }) .ecx),
      ([0x66, 0x0F, 0xBA, 0xE8, 0x15], .btsRm16Ib false (.reg .eax) 0x15),
      ([0x0F, 0xBA, 0x2B, 0x25], .btsRm32Ib false (.mem { seg := .ds, ea := .a32 (some .ebx) none 0 }) 0x25),
      ([0xF0, 0x0F, 0xAB, 0x0B], .btsRm32R32 true (.mem { seg := .ds, ea := .a32 (some .ebx) none 0 }) .ecx)] = true := by
  decide

/-- 44_call.md R251, R252, R254, R255. -/
theorem test_decode_call :
    decodes .s32 [
      ([0x66, 0xE8, 0x00, 0x20], .callRel16 0x2000),
      ([0xE8, 0xFB, 0xFF, 0xFF, 0xFF], .callRel32 0xFFFFFFFB),
      ([0x66, 0xFF, 0xD0], .callRm16 (.reg .eax)),
      ([0xFF, 0xD4], .callRm32 (.reg .esp)),
      ([0x66, 0x9A, 0x00, 0x01, 0x00, 0x20], .callPtr16 0x2000 0x0100),
      ([0x9A, 0x78, 0x56, 0x34, 0x12, 0x08, 0x00], .callPtr32 0x0008 0x12345678),
      ([0x66, 0xFF, 0x1B], .callM16x16 { seg := .ds, ea := .a32 (some .ebx) none 0 }),
      ([0xFF, 0x1B], .callM16x32 { seg := .ds, ea := .a32 (some .ebx) none 0 })] = true := by
  decide

/-- 45_convert_and_flag_control.md R280 to R292. -/
theorem test_decode_converts_and_flags :
    decodes .s32 [
      ([0x66, 0x98], .cbw),
      ([0x98], .cwde),
      ([0x66, 0x99], .cwd),
      ([0x99], .cdq),
      ([0xF8], .clc),
      ([0xFC], .cld),
      ([0xFA], .cli),
      ([0x0F, 0x06], .clts),
      ([0xF5], .cmc)] = true := by
  decide

/-- The same bytes in a 16-bit code segment (45_convert_and_flag_control.md R279). -/
theorem test_decode_converts_16 :
    decodes .s16 [
      ([0x98], .cbw),
      ([0x66, 0x98], .cwde),
      ([0x99], .cwd),
      ([0x66, 0x99], .cdq)] = true := by
  decide

/-- 46_cmov_string_cmpxchg.md R302 to R317. -/
theorem test_decode_cmov :
    decodes .s32 [
      ([0x66, 0x0F, 0x40, 0xC3], .cmovO16 .eax (.reg .ebx)),
      ([0x0F, 0x40, 0x03], .cmovO32 .eax (.mem { seg := .ds, ea := .a32 (some .ebx) none 0 })),
      ([0x66, 0x0F, 0x41, 0xC3], .cmovNo16 .eax (.reg .ebx)),
      ([0x0F, 0x41, 0x03], .cmovNo32 .eax (.mem { seg := .ds, ea := .a32 (some .ebx) none 0 })),
      ([0x66, 0x0F, 0x42, 0xC3], .cmovB16 .eax (.reg .ebx)),
      ([0x0F, 0x42, 0x03], .cmovB32 .eax (.mem { seg := .ds, ea := .a32 (some .ebx) none 0 })),
      ([0x66, 0x0F, 0x43, 0xC3], .cmovAe16 .eax (.reg .ebx)),
      ([0x0F, 0x43, 0x03], .cmovAe32 .eax (.mem { seg := .ds, ea := .a32 (some .ebx) none 0 })),
      ([0x66, 0x0F, 0x44, 0xC3], .cmovE16 .eax (.reg .ebx)),
      ([0x0F, 0x44, 0x03], .cmovE32 .eax (.mem { seg := .ds, ea := .a32 (some .ebx) none 0 })),
      ([0x66, 0x0F, 0x45, 0xC3], .cmovNe16 .eax (.reg .ebx)),
      ([0x0F, 0x45, 0x03], .cmovNe32 .eax (.mem { seg := .ds, ea := .a32 (some .ebx) none 0 })),
      ([0x66, 0x0F, 0x46, 0xC3], .cmovBe16 .eax (.reg .ebx)),
      ([0x0F, 0x46, 0x03], .cmovBe32 .eax (.mem { seg := .ds, ea := .a32 (some .ebx) none 0 })),
      ([0x66, 0x0F, 0x47, 0xC3], .cmovA16 .eax (.reg .ebx)),
      ([0x0F, 0x47, 0x03], .cmovA32 .eax (.mem { seg := .ds, ea := .a32 (some .ebx) none 0 })),
      ([0x66, 0x0F, 0x48, 0xC3], .cmovS16 .eax (.reg .ebx)),
      ([0x0F, 0x48, 0x03], .cmovS32 .eax (.mem { seg := .ds, ea := .a32 (some .ebx) none 0 })),
      ([0x66, 0x0F, 0x49, 0xC3], .cmovNs16 .eax (.reg .ebx)),
      ([0x0F, 0x49, 0x03], .cmovNs32 .eax (.mem { seg := .ds, ea := .a32 (some .ebx) none 0 })),
      ([0x66, 0x0F, 0x4A, 0xC3], .cmovP16 .eax (.reg .ebx)),
      ([0x0F, 0x4A, 0x03], .cmovP32 .eax (.mem { seg := .ds, ea := .a32 (some .ebx) none 0 })),
      ([0x66, 0x0F, 0x4B, 0xC3], .cmovNp16 .eax (.reg .ebx)),
      ([0x0F, 0x4B, 0x03], .cmovNp32 .eax (.mem { seg := .ds, ea := .a32 (some .ebx) none 0 })),
      ([0x66, 0x0F, 0x4C, 0xC3], .cmovL16 .eax (.reg .ebx)),
      ([0x0F, 0x4C, 0x03], .cmovL32 .eax (.mem { seg := .ds, ea := .a32 (some .ebx) none 0 })),
      ([0x66, 0x0F, 0x4D, 0xC3], .cmovGe16 .eax (.reg .ebx)),
      ([0x0F, 0x4D, 0x03], .cmovGe32 .eax (.mem { seg := .ds, ea := .a32 (some .ebx) none 0 })),
      ([0x66, 0x0F, 0x4E, 0xC3], .cmovLe16 .eax (.reg .ebx)),
      ([0x0F, 0x4E, 0x03], .cmovLe32 .eax (.mem { seg := .ds, ea := .a32 (some .ebx) none 0 })),
      ([0x66, 0x0F, 0x4F, 0xC3], .cmovG16 .eax (.reg .ebx)),
      ([0x0F, 0x4F, 0x03], .cmovG32 .eax (.mem { seg := .ds, ea := .a32 (some .ebx) none 0 }))] = true := by
  decide

/-- 46_cmov_string_cmpxchg.md R318, R321, R323 to R325; 47_cpuid.md R330. -/
theorem test_decode_strings_and_exchange :
    decodes .s32 [
      ([0xA6], .cmpsb .s32 .ds),
      ([0x67, 0xA6], .cmpsb .s16 .ds),
      ([0x66, 0xA7], .cmpsw .s32 .ds),
      ([0x2E, 0xA7], .cmpsd .s32 .cs),
      ([0x0F, 0xB0, 0x0B], .cmpxchgRm8R8 false (.mem { seg := .ds, ea := .a32 (some .ebx) none 0 }) .cl),
      ([0x66, 0x0F, 0xB1, 0x0B], .cmpxchgRm16R16 false (.mem { seg := .ds, ea := .a32 (some .ebx) none 0 }) .ecx),
      ([0x0F, 0xB1, 0xC8], .cmpxchgRm32R32 false (.reg .eax) .ecx),
      ([0xF0, 0x0F, 0xB1, 0x0B], .cmpxchgRm32R32 true (.mem { seg := .ds, ea := .a32 (some .ebx) none 0 }) .ecx),
      ([0x0F, 0xC7, 0x0B], .cmpxchg8b false { seg := .ds, ea := .a32 (some .ebx) none 0 }),
      ([0x0F, 0xA2], .cpuid)] = true := by
  decide

/-- 41_integer_arith_logic.md R194, R195. -/
theorem test_decode_dec_div :
    decodes .s32 [
      ([0xFE, 0x0B], .decRm8 false (.mem { seg := .ds, ea := .a32 (some .ebx) none 0 })),
      ([0x66, 0xFF, 0xCB], .decRm16 false (.reg .ebx)),
      ([0xFF, 0x0B], .decRm32 false (.mem { seg := .ds, ea := .a32 (some .ebx) none 0 })),
      ([0x66, 0x49], .decR16 .ecx),
      ([0x4F], .decR32 .edi),
      ([0xF6, 0xF3], .divRm8 (.reg .bl)),
      ([0x66, 0xF7, 0xF3], .divRm16 (.reg .ebx)),
      ([0xF7, 0x33], .divRm32 (.mem { seg := .ds, ea := .a32 (some .ebx) none 0 }))] = true := by
  decide

/-- Every addressing form with 32-bit addresses: 30_encoding.md R124, R125, R133. -/
theorem test_decode_addressing32 :
    decodes .s32 [
      ([0x01, 0x00], .addRm32R32 false (.mem { seg := .ds, ea := .a32 (some .eax) none 0 }) .eax),
      ([0x01, 0x05, 0x00, 0x20, 0x00, 0x00], .addRm32R32 false (.mem { seg := .ds, ea := .a32 none none 0x2000 }) .eax),
      ([0x01, 0x45, 0x00], .addRm32R32 false (.mem { seg := .ss, ea := .a32 (some .ebp) none 0 }) .eax),
      ([0x01, 0x43, 0xFC], .addRm32R32 false (.mem { seg := .ds, ea := .a32 (some .ebx) none 0xFFFFFFFC }) .eax),
      ([0x01, 0x83, 0x78, 0x56, 0x34, 0x12], .addRm32R32 false (.mem { seg := .ds, ea := .a32 (some .ebx) none 0x12345678 }) .eax),
      ([0x01, 0x04, 0x24], .addRm32R32 false (.mem { seg := .ss, ea := .a32 (some .esp) none 0 }) .eax),
      ([0x01, 0x04, 0x8B], .addRm32R32 false (.mem { seg := .ds, ea := .a32 (some .ebx) (some (.ecx, 2)) 0 }) .eax),
      ([0x01, 0x04, 0x8D, 0x00, 0x20, 0x00, 0x00], .addRm32R32 false (.mem { seg := .ds, ea := .a32 none (some (.ecx, 2)) 0x2000 }) .eax),
      ([0x01, 0x44, 0x6D, 0x04], .addRm32R32 false (.mem { seg := .ss, ea := .a32 (some .ebp) (some (.ebp, 1)) 4 }) .eax),
      ([0x01, 0x84, 0xD6, 0x00, 0x20, 0x00, 0x00], .addRm32R32 false (.mem { seg := .ds, ea := .a32 (some .esi) (some (.edx, 3)) 0x2000 }) .eax),
      ([0x01, 0x04, 0x25, 0x00, 0x20, 0x00, 0x00], .addRm32R32 false (.mem { seg := .ds, ea := .a32 none none 0x2000 }) .eax),
      ([0x64, 0x01, 0x00], .addRm32R32 false (.mem { seg := .fs, ea := .a32 (some .eax) none 0 }) .eax),
      ([0x3E, 0x01, 0x45, 0x00], .addRm32R32 false (.mem { seg := .ds, ea := .a32 (some .ebp) none 0 }) .eax)] = true := by
  decide

/-- Every addressing form with 16-bit addresses: 30_encoding.md R126. -/
theorem test_decode_addressing16 :
    decodes .s32 [
      ([0x67, 0x01, 0x00], .addRm32R32 false (.mem { seg := .ds, ea := .a16 (some .bxSi) 0 }) .eax),
      ([0x67, 0x01, 0x01], .addRm32R32 false (.mem { seg := .ds, ea := .a16 (some .bxDi) 0 }) .eax),
      ([0x67, 0x01, 0x02], .addRm32R32 false (.mem { seg := .ss, ea := .a16 (some .bpSi) 0 }) .eax),
      ([0x67, 0x01, 0x03], .addRm32R32 false (.mem { seg := .ss, ea := .a16 (some .bpDi) 0 }) .eax),
      ([0x67, 0x01, 0x04], .addRm32R32 false (.mem { seg := .ds, ea := .a16 (some .si) 0 }) .eax),
      ([0x67, 0x01, 0x05], .addRm32R32 false (.mem { seg := .ds, ea := .a16 (some .di) 0 }) .eax),
      ([0x67, 0x01, 0x06, 0x00, 0x20], .addRm32R32 false (.mem { seg := .ds, ea := .a16 none 0x2000 }) .eax),
      ([0x67, 0x01, 0x07], .addRm32R32 false (.mem { seg := .ds, ea := .a16 (some .bx) 0 }) .eax),
      ([0x67, 0x01, 0x46, 0xFE], .addRm32R32 false (.mem { seg := .ss, ea := .a16 (some .bp) 0xFFFE }) .eax),
      ([0x67, 0x01, 0x87, 0x34, 0x12], .addRm32R32 false (.mem { seg := .ds, ea := .a16 (some .bx) 0x1234 }) .eax)] = true := by
  decide

/-- 95_test_vectors.md, section 2.11, with 30_encoding.md R139 and 20_memory.md R107: encodings that raise `#UD`. -/
theorem test_decode_undefined :
    ([
      [0x62, 0xC3],
      [0x0F, 0xC7, 0xC1],
      [0xF0, 0x0F, 0xB1, 0xC8],
      [0xF0, 0x39, 0x03],
      [0xF0, 0x37],
      [0xFF, 0xDB],
      [0xFF, 0xF8],
      [0xFE, 0x10],
      [0xFE, 0x38],
      [0x0F, 0xBA, 0xC0, 0x00],
      [0x0F, 0xBA, 0x18, 0x00],
      [0x0F, 0xC7, 0x03],
      [0x0F, 0xC7, 0x33]] : List (List Byte)).all
      (fun b => decide (decode .s32 b = .undefined)) = true := by
  decide

/-- 95_test_vectors.md, section 2.11, with 30_encoding.md R135, R139: opcodes of no captured page. -/
theorem test_decode_out_of_scope :
    ([
      ([0xB8], .outOfScope false 0xB8),
      ([0xEB], .outOfScope false 0xEB),
      ([0x90], .outOfScope false 0x90),
      ([0xC3], .outOfScope false 0xC3),
      ([0x0F, 0x05], .outOfScope true 0x05),
      ([0x82, 0xC0, 0x01], .outOfScope false 0x82),
      ([0x80, 0xE8, 0x01], .outOfScope false 0x80),
      ([0xF6, 0x38], .outOfScope false 0xF6),
      ([0xFE, 0x00], .outOfScope false 0xFE),
      ([0xFF, 0x00], .outOfScope false 0xFF)] : List (List Byte × Parse Instr)).all
      (fun p => decide (decode .s32 p.1 = p.2)) = true := by
  decide

/-- 46_cmov_string_cmpxchg.md R326 (95_test_vectors.md, section 2.9), and bytes that end too soon. -/
theorem test_decode_rep_and_truncated :
    decode .s32 [0xF3, 0xA6] = .rep ∧ decode .s32 [0xF2, 0xA6] = .rep ∧ decode .s32 [0x66, 0xF0] = .truncated ∧
    decode .s32 [0x01, 0x04] = .truncated ∧ decode .s32 [0x05, 0, 0, 0] = .truncated := by
  decide

/-! ## One step on a small state -/

/-- The launch state with these registers and this memory. -/
def start (regs : List (Reg × DWord)) (mem : List Host.Cell) : State :=
  { State.reset with regs := regs.foldl (fun f p => f.set p.1 p.2) State.reset.regs, mem := mem }

/-- Bytes at consecutive addresses. -/
def bytesAt : Nat → List Byte → List Host.Cell
  | _, [] => []
  | a, b :: bs => (a, b) :: bytesAt (a + 1) bs

/-- Decodes the bytes and executes the instruction, as a step at the instruction pointer would. -/
def run (bytes : List Byte) (s : State) : Host.Outcome State Fault Refusal :=
  match decode s.codeSize bytes with
  | .done i [] => exec i { s with nextPc := s.pc + BitVec.ofNat 32 bytes.length }
  | _ => .refused .repPrefix

/-- Whether an outcome is a next state of which this is true. -/
def gives (o : Host.Outcome State Fault Refusal) (p : State → Bool) : Bool :=
  match o with
  | .next t => p t
  | .fault _ => false
  | .refused _ => false

/-- Whether an outcome is this fault. -/
def stops (o : Host.Outcome State Fault Refusal) (f : Fault) : Bool :=
  match o with
  | .next _ => false
  | .fault g => decide (g = f)
  | .refused _ => false

/-- The six status flags, in the order of the vectors' columns. -/
def flagsAre (t : State) (cf pf af zf sf ofl : Bool) : Bool :=
  decide (t.status = { cf := cf, pf := pf, af := af, zf := zf, sf := sf, ofl := ofl })

/-- 95_test_vectors.md, section 2.2. -/
theorem test_add_al_imm :
    gives (run [0x04, 0x80]
      (start [(.eax, 0x80)] [])) (fun t =>
      t.reg32 .eax == 0 &&
      flagsAre t true true false true false true) = true := by
  decide

/-- 95_test_vectors.md, sections 1.1 and 2.2. -/
theorem test_add_rm8_r8 :
    gives (run [0x00, 0xD8]
      (start [(.eax, 0x79), (.ebx, 0x35)] [])) (fun t =>
      t.reg32 .eax == 0xAE &&
      t.reg32 .ebx == 0x35 &&
      flagsAre t false false false false true true) = true := by
  decide

/-- 95_test_vectors.md, section 2.2. -/
theorem test_add_rm32_r32 :
    gives (run [0x01, 0xD8]
      (start [(.eax, 0x7FFFFFFF), (.ebx, 1)] [])) (fun t =>
      t.reg32 .eax == 0x80000000 &&
      t.reg32 .ebx == 1 &&
      flagsAre t false true true false true true) = true := by
  decide

/-- 95_test_vectors.md, section 2.2. -/
theorem test_add_rm32_imm8 :
    gives (run [0x83, 0xC0, 0xFF]
      (start [(.eax, 1)] [])) (fun t =>
      t.reg32 .eax == 0 &&
      flagsAre t true true true true false false) = true := by
  decide

/-- 95_test_vectors.md, section 2.2. -/
theorem test_add_rm16_imm8 :
    gives (run [0x66, 0x83, 0xC0, 0xFF]
      (start [(.eax, 0x12340000)] [])) (fun t =>
      t.reg32 .eax == 0x1234FFFF &&
      flagsAre t false true false false true false) = true := by
  decide

/-- 95_test_vectors.md, section 2.2. -/
theorem test_add_r8_rm8 :
    gives (run [0x02, 0xC4]
      (start [(.eax, 0xF010)] [])) (fun t =>
      t.reg32 .eax == 0xF000 &&
      flagsAre t true true false true false false) = true := by
  decide

/-- 95_test_vectors.md, section 2.2. -/
theorem test_add_memory :
    gives (run [0x01, 0x43, 0x04]
      (start [(.eax, 0x20), (.ebx, 0x2000)] (bytesAt 0x2004 [0xFF, 0xFF, 0xFF, 0xFF]))) (fun t =>
      t.reg32 .eax == 0x20 &&
      t.mem == (bytesAt 0x2004 [0x1F, 0, 0, 0]) &&
      flagsAre t true false false false false false) = true := by
  decide

/-- 95_test_vectors.md, section 2.2. -/
theorem test_adc_rm32_r32 :
    gives (run [0x11, 0xCA]
      { start [(.edx, 0xFFFFFFFF)] [] with
        status := { State.reset.status with cf := true } }) (fun t =>
      t.reg32 .edx == 0 &&
      t.reg32 .ecx == 0 &&
      flagsAre t true true true true false false) = true := by
  decide

/-- 95_test_vectors.md, section 2.2. -/
theorem test_adc_rm8_r8 :
    gives (run [0x10, 0xD8]
      { start [(.eax, 0xF)] [] with
        status := { State.reset.status with cf := true } }) (fun t =>
      t.reg32 .eax == 0x10 &&
      flagsAre t false false true false false false) = true := by
  decide

/-- 95_test_vectors.md, section 2.2. -/
theorem test_adc_al_imm :
    gives (run [0x14, 0xFF]
      { start [(.eax, 5)] [] with
        status := { State.reset.status with cf := true } }) (fun t =>
      t.reg32 .eax == 5 &&
      flagsAre t true true true false false false) = true := by
  decide

/-- 95_test_vectors.md, section 2.2. -/
theorem test_adc_eax_imm :
    gives (run [0x15, 0xFF, 0xFF, 0xFF, 0x7F]
      { start [] [] with
        status := { State.reset.status with cf := true } }) (fun t =>
      t.reg32 .eax == 0x80000000 &&
      flagsAre t false true true false true true) = true := by
  decide

/-- 95_test_vectors.md, section 2.2. -/
theorem test_and_rm32_r32 :
    gives (run [0x21, 0xD8]
      (start [(.eax, 0xF0F0F0F0), (.ebx, 0xFF00FF0)] [])) (fun t =>
      t.reg32 .eax == 0xF000F0 &&
      !t.status.cf && t.status.pf && !t.status.zf && !t.status.sf && !t.status.ofl) = true := by
  decide

/-- 95_test_vectors.md, section 2.2. -/
theorem test_and_rm32_imm8 :
    gives (run [0x83, 0xE0, 0xF0]
      (start [(.eax, 0x8000001F)] [])) (fun t =>
      t.reg32 .eax == 0x80000010 &&
      !t.status.cf && !t.status.pf && !t.status.zf && t.status.sf && !t.status.ofl) = true := by
  decide

/-- 95_test_vectors.md, section 2.2. -/
theorem test_and_rm8_r8 :
    gives (run [0x20, 0xC0]
      { start [(.eax, 0xFFFFFF00)] [] with
        status := { State.reset.status with cf := true, ofl := true } }) (fun t =>
      t.reg32 .eax == 0xFFFFFF00 &&
      !t.status.cf && t.status.pf && t.status.zf && !t.status.sf && !t.status.ofl) = true := by
  decide

/-- 95_test_vectors.md, section 2.2. -/
theorem test_and_memory :
    gives (run [0x80, 0x25, 0x00, 0x20, 0x00, 0x00, 0x0F]
      (start [] (bytesAt 0x2000 [0xF5]))) (fun t =>
      t.mem == (bytesAt 0x2000 [5]) &&
      !t.status.cf && t.status.pf && !t.status.zf && !t.status.sf && !t.status.ofl) = true := by
  decide

/-- 95_test_vectors.md, section 2.2. -/
theorem test_cmp_al_imm :
    gives (run [0x3C, 0x01]
      (start [(.eax, 0x80)] [])) (fun t =>
      t.reg32 .eax == 0x80 &&
      flagsAre t false false true false false true) = true := by
  decide

/-- 95_test_vectors.md, section 2.2. -/
theorem test_cmp_rm32_r32 :
    gives (run [0x39, 0xD8]
      (start [(.eax, 0x12345678), (.ebx, 0x12345678)] [])) (fun t =>
      t.reg32 .eax == 0x12345678 &&
      flagsAre t false true false true false false) = true := by
  decide

/-- 95_test_vectors.md, section 2.2. -/
theorem test_cmp_eax_imm :
    gives (run [0x3D, 0x01, 0x00, 0x00, 0x00]
      (start [(.eax, 0x80000000)] [])) (fun t =>
      t.reg32 .eax == 0x80000000 &&
      flagsAre t false true true false false true) = true := by
  decide

/-- 95_test_vectors.md, section 2.2. -/
theorem test_cmp_rm32_imm8 :
    gives (run [0x83, 0xF8, 0xFF]
      (start [] [])) (fun t =>
      t.reg32 .eax == 0 &&
      flagsAre t true false true false false false) = true := by
  decide

/-- 95_test_vectors.md, section 2.2. -/
theorem test_cmp_memory :
    gives (run [0x3B, 0x03]
      (start [(.eax, 1), (.ebx, 0x2000)] (bytesAt 0x2000 [2, 0, 0, 0]))) (fun t =>
      t.reg32 .eax == 1 &&
      t.mem == (bytesAt 0x2000 [2, 0, 0, 0]) &&
      t.stored == [] &&
      flagsAre t true true true false true false) = true := by
  decide

/-- 95_test_vectors.md, section 2.2. -/
theorem test_dec_keeps_carry :
    gives (run [0x48]
      { start [] [] with
        status := { State.reset.status with cf := true } }) (fun t =>
      t.reg32 .eax == 0xFFFFFFFF &&
      flagsAre t true true true false true false) = true := by
  decide

/-- 95_test_vectors.md, section 2.2. -/
theorem test_dec_overflow :
    gives (run [0x48]
      (start [(.eax, 0x80000000)] [])) (fun t =>
      t.reg32 .eax == 0x7FFFFFFF &&
      flagsAre t false true true false false true) = true := by
  decide

/-- 95_test_vectors.md, section 2.2. -/
theorem test_dec_rm8 :
    gives (run [0xFE, 0xC8]
      (start [(.eax, 0x1280)] [])) (fun t =>
      t.reg32 .eax == 0x127F &&
      flagsAre t false false true false false true) = true := by
  decide

/-- 95_test_vectors.md, section 2.2. -/
theorem test_dec_r16 :
    gives (run [0x66, 0x49]
      (start [(.ecx, 0xABCD0000)] [])) (fun t =>
      t.reg32 .ecx == 0xABCDFFFF &&
      flagsAre t false true true false true false) = true := by
  decide

/-- 95_test_vectors.md, section 2.2. -/
theorem test_dec_memory :
    gives (run [0xFE, 0x4B, 0x08]
      { start [(.ebx, 0x2000)] (bytesAt 0x2008 [0]) with
        status := { State.reset.status with cf := true } }) (fun t =>
      t.mem == (bytesAt 0x2008 [0xFF]) &&
      flagsAre t true true true false true false) = true := by
  decide

/-- 95_test_vectors.md, section 2.2. -/
theorem test_div_rm8 :
    gives (run [0xF6, 0xF3]
      (start [(.eax, 0xFEFF), (.ebx, 0xFF)] [])) (fun t =>
      t.reg32 .eax == 0xFEFF) = true := by
  decide

/-- 95_test_vectors.md, section 2.2. -/
theorem test_div_rm8_overflow :
    stops (run [0xF6, 0xF3]
      (start [(.eax, 0xFFFF), (.ebx, 0xFF)] []))
      (.exception .de none 0x1000 none) = true := by
  decide

/-- 95_test_vectors.md, section 2.2. -/
theorem test_div_rm16 :
    gives (run [0x66, 0xF7, 0xF3]
      (start [(.eax, 0xBBBB0000), (.edx, 0xAAAA0001), (.ebx, 3)] [])) (fun t =>
      t.reg32 .eax == 0xBBBB5555 &&
      t.reg32 .edx == 0xAAAA0001) = true := by
  decide

/-- 95_test_vectors.md, section 2.2. -/
theorem test_div_rm32 :
    gives (run [0xF7, 0xF1]
      (start [(.edx, 1), (.ecx, 2)] [])) (fun t =>
      t.reg32 .eax == 0x80000000 &&
      t.reg32 .edx == 0) = true := by
  decide

/-- 95_test_vectors.md, section 2.2. -/
theorem test_div_rm32_overflow :
    stops (run [0xF7, 0xF1]
      (start [(.edx, 2), (.ecx, 2)] []))
      (.exception .de none 0x1000 none) = true := by
  decide

/-- 95_test_vectors.md, section 2.2. -/
theorem test_div_by_zero :
    stops (run [0x66, 0xF7, 0xF3]
      (start [(.eax, 0x64)] []))
      (.exception .de none 0x1000 none) = true := by
  decide

/-- 95_test_vectors.md, sections 1.1 and 2.1. -/
theorem test_daa_source_example :
    gives (run [0x27]
      (start [(.eax, 0xAE)] [])) (fun t =>
      t.reg32 .eax == 0x14 &&
      t.status.cf && t.status.pf && t.status.af && !t.status.zf && !t.status.sf) = true := by
  decide

/-- 95_test_vectors.md, section 2.1. -/
theorem test_daa_carry_in :
    gives (run [0x27]
      { start [(.eax, 0xFF)] [] with
        status := { State.reset.status with cf := true, af := true } }) (fun t =>
      t.reg32 .eax == 0x65 &&
      t.status.cf && t.status.pf && t.status.af && !t.status.zf && !t.status.sf) = true := by
  decide

/-- 95_test_vectors.md, sections 1.2 and 2.1. -/
theorem test_das_source_example :
    gives (run [0x2F]
      { start [(.eax, 0xEE)] [] with
        status := { State.reset.status with cf := true, af := true } }) (fun t =>
      t.reg32 .eax == 0x88 &&
      t.status.cf && t.status.pf && t.status.af && !t.status.zf && t.status.sf) = true := by
  decide

/-- 95_test_vectors.md, section 2.1. -/
theorem test_das_variants_differ :
    gives (run [0x2F]
      { start [(.eax, 5)] [] with
        status := { State.reset.status with af := true } }) (fun t =>
      t.reg32 .eax == 0x9F &&
      t.status.cf && t.status.pf && t.status.af && !t.status.zf && t.status.sf) = true := by
  decide

/-- 95_test_vectors.md, section 2.3. -/
theorem test_aaa_no_carry_into_ah :
    gives (run [0x37]
      (start [(.eax, 0xFA)] [])) (fun t =>
      t.reg32 .eax == 0x100 &&
      t.status.cf && t.status.af) = true := by
  decide

/-- 95_test_vectors.md, section 2.3. -/
theorem test_aaa_af :
    gives (run [0x37]
      { start [(.eax, 0x105)] [] with
        status := { State.reset.status with af := true } }) (fun t =>
      t.reg32 .eax == 0x20B &&
      t.status.cf && t.status.af) = true := by
  decide

/-- 95_test_vectors.md, section 2.3. -/
theorem test_aas_borrow :
    gives (run [0x3F]
      { start [(.eax, 3)] [] with
        status := { State.reset.status with af := true } }) (fun t =>
      t.reg32 .eax == 0xFF0D &&
      t.status.cf && t.status.af) = true := by
  decide

/-- 95_test_vectors.md, section 2.3. -/
theorem test_aas_no_adjust :
    gives (run [0x3F]
      (start [(.eax, 0x508)] [])) (fun t =>
      t.reg32 .eax == 0x508 &&
      !t.status.cf && !t.status.af) = true := by
  decide

/-- 95_test_vectors.md, section 2.3. -/
theorem test_aad :
    gives (run [0xD5, 0x0A]
      (start [(.eax, 0x909)] [])) (fun t =>
      t.reg32 .eax == 0x63 &&
      t.status.pf && !t.status.zf && !t.status.sf) = true := by
  decide

/-- 95_test_vectors.md, section 2.3. -/
theorem test_aad_16 :
    gives (run [0xD5, 0x10]
      (start [(.eax, 0xF0F)] [])) (fun t =>
      t.reg32 .eax == 0xFF &&
      t.status.pf && !t.status.zf && t.status.sf) = true := by
  decide

/-- 95_test_vectors.md, section 2.3. -/
theorem test_aam :
    gives (run [0xD4, 0x0A]
      (start [(.eax, 0xFF)] [])) (fun t =>
      t.reg32 .eax == 0x1905 &&
      t.status.pf && !t.status.zf && !t.status.sf) = true := by
  decide

/-- 95_test_vectors.md, section 2.3. -/
theorem test_aam_zero :
    stops (run [0xD4, 0x00]
      (start [(.eax, 5)] []))
      (.exception .de none 0x1000 none) = true := by
  decide

/-- 95_test_vectors.md, section 2.4. -/
theorem test_arpl_raises :
    gives (run [0x63, 0xD8]
      (start [(.eax, 0xFFFF0009), (.ebx, 2)] [])) (fun t =>
      t.reg32 .eax == 0xFFFF000A &&
      t.reg32 .ebx == 2 &&
      flagsAre t false false false true false false) = true := by
  decide

/-- 95_test_vectors.md, section 2.4. -/
theorem test_arpl_memory :
    gives (run [0x63, 0x0B]
      (start [(.ebx, 0x2000), (.ecx, 0x13)] (bytesAt 0x2000 [0x10, 0]))) (fun t =>
      t.mem == (bytesAt 0x2000 [0x13, 0]) &&
      t.status.zf) = true := by
  decide

/-- 95_test_vectors.md, section 2.4. -/
theorem test_bound_slack :
    gives (run [0x62, 0x03]
      (start [(.eax, 0xE), (.ebx, 0x2000)] (bytesAt 0x2000 [0, 0, 0, 0, 0x0A, 0, 0, 0]))) (fun t =>
      t.reg32 .eax == 0xE &&
      t.pc == 0x1002 &&
      t.mem == (bytesAt 0x2000 [0, 0, 0, 0, 0x0A, 0, 0, 0])) = true := by
  decide

/-- 95_test_vectors.md, section 2.4. -/
theorem test_bound_above :
    stops (run [0x62, 0x03]
      (start [(.eax, 0xF), (.ebx, 0x2000)] (bytesAt 0x2000 [0, 0, 0, 0, 0x0A, 0, 0, 0])))
      (.exception .br none 0x1000 none) = true := by
  decide

/-- 95_test_vectors.md, section 2.4. -/
theorem test_bound16 :
    gives (run [0x66, 0x62, 0x03]
      (start [(.eax, 0xFFFF), (.ebx, 0x2000)] (bytesAt 0x2000 [0xFE, 0xFF, 0xFF, 0xFF]))) (fun t =>
      t.reg32 .eax == 0xFFFF &&
      t.pc == 0x1003) = true := by
  decide

/-- 95_test_vectors.md, section 2.4. -/
theorem test_bound16_above :
    stops (run [0x66, 0x62, 0x03]
      (start [(.eax, 0xD), (.ebx, 0x2000)] (bytesAt 0x2000 [0, 0, 0x0A, 0])))
      (.exception .br none 0x1000 none) = true := by
  decide

/-- 95_test_vectors.md, section 2.5. -/
theorem test_bsf32 :
    gives (run [0x0F, 0xBC, 0xC3]
      (start [(.ebx, 0x80000000)] [])) (fun t =>
      t.reg32 .eax == 0x1F &&
      t.reg32 .ebx == 0x80000000 &&
      !t.status.zf) = true := by
  decide

/-- 95_test_vectors.md, section 2.5. -/
theorem test_bsf16_zero :
    gives (run [0x66, 0x0F, 0xBC, 0xC3]
      (start [(.eax, 0x12345678), (.ebx, 0xFFFF0000)] [])) (fun t =>
      t.pc == 0x1004 &&
      t.status.zf) = true := by
  decide

/-- 95_test_vectors.md, section 2.5. -/
theorem test_bsr32_memory :
    gives (run [0x0F, 0xBD, 0x03]
      (start [(.ebx, 0x2000)] (bytesAt 0x2000 [0, 1, 0, 0]))) (fun t =>
      t.reg32 .eax == 8 &&
      !t.status.zf) = true := by
  decide

/-- 95_test_vectors.md, section 2.5. -/
theorem test_bsr16 :
    gives (run [0x66, 0x0F, 0xBD, 0xC3]
      (start [(.eax, 0xAAAA0000), (.ebx, 0xFFFF8001)] [])) (fun t =>
      t.reg32 .eax == 0xAAAA000F &&
      !t.status.zf) = true := by
  decide

/-- 95_test_vectors.md, section 2.5. -/
theorem test_bswap :
    gives (run [0x0F, 0xCC]
      (start [(.esp, 0xA1B2C3D4)] [])) (fun t =>
      t.reg32 .esp == 0xD4C3B2A1 &&
      flagsAre t false false false false false false) = true := by
  decide

/-- 95_test_vectors.md, section 2.5. -/
theorem test_bt_register :
    gives (run [0x0F, 0xA3, 0xC8]
      (start [(.eax, 0x80000000), (.ecx, 0xFFFFFFFF)] [])) (fun t =>
      t.reg32 .eax == 0x80000000 &&
      t.status.cf) = true := by
  decide

/-- 95_test_vectors.md, section 2.5. -/
theorem test_bt_register16 :
    gives (run [0x66, 0x0F, 0xA3, 0xC8]
      (start [(.eax, 0x18000), (.ecx, 0x1F)] [])) (fun t =>
      t.reg32 .eax == 0x18000 &&
      t.status.cf) = true := by
  decide

/-- 95_test_vectors.md, section 1.4. -/
theorem test_bt_imm :
    gives (run [0x0F, 0xBA, 0xE0, 0x15]
      (start [(.eax, 0x200000)] [])) (fun t =>
      t.reg32 .eax == 0x200000 &&
      t.status.cf) = true := by
  decide

/-- 95_test_vectors.md, section 2.5. -/
theorem test_bt_imm16 :
    gives (run [0x66, 0x0F, 0xBA, 0xE0, 0x15]
      (start [(.eax, 0x20)] [])) (fun t =>
      t.reg32 .eax == 0x20 &&
      t.status.cf) = true := by
  decide

/-- 95_test_vectors.md, section 2.5. -/
theorem test_bt_memory_backward :
    gives (run [0x0F, 0xA3, 0x0B]
      (start [(.ebx, 0x2002), (.ecx, 0xFFFFFFF5)] (bytesAt 0x2000 [0x20]))) (fun t =>
      t.mem == (bytesAt 0x2000 [0x20]) &&
      t.stored == [] &&
      t.status.cf) = true := by
  decide

/-- 95_test_vectors.md, section 2.5. -/
theorem test_btc_register :
    gives (run [0x0F, 0xBB, 0xC8]
      (start [(.ecx, 0x20)] [])) (fun t =>
      t.reg32 .eax == 1 &&
      t.reg32 .ecx == 0x20 &&
      !t.status.cf) = true := by
  decide

/-- 95_test_vectors.md, section 2.5. -/
theorem test_btc_imm_memory :
    gives (run [0x0F, 0xBA, 0x3B, 0x07]
      (start [(.ebx, 0x2000)] (bytesAt 0x2000 [0x80, 0, 0, 0]))) (fun t =>
      t.mem == (bytesAt 0x2000 [0, 0, 0, 0]) &&
      t.status.cf) = true := by
  decide

/-- 95_test_vectors.md, section 2.5. -/
theorem test_btr_memory :
    gives (run [0x0F, 0xB3, 0x0B]
      (start [(.ebx, 0x2000), (.ecx, 9)] (bytesAt 0x2000 [0xFF, 0xFF, 0xFF, 0xFF]))) (fun t =>
      t.mem == (bytesAt 0x2000 [0xFF, 0xFD, 0xFF, 0xFF]) &&
      t.status.cf) = true := by
  decide

/-- 95_test_vectors.md, section 2.5. -/
theorem test_btr_imm :
    gives (run [0x0F, 0xBA, 0xF0, 0x00]
      (start [(.eax, 0xFFFFFFFE)] [])) (fun t =>
      t.reg32 .eax == 0xFFFFFFFE &&
      !t.status.cf) = true := by
  decide

/-- 95_test_vectors.md, section 2.5. -/
theorem test_bts_register16 :
    gives (run [0x66, 0x0F, 0xAB, 0xC8]
      (start [(.eax, 0xFFFF0000), (.ecx, 0x1F)] [])) (fun t =>
      t.reg32 .eax == 0xFFFF8000 &&
      !t.status.cf) = true := by
  decide

/-- 95_test_vectors.md, section 2.5. -/
theorem test_bts_imm_memory :
    gives (run [0x0F, 0xBA, 0x2B, 0x1F]
      (start [(.ebx, 0x2000)] (bytesAt 0x2000 [0, 0, 0, 0]))) (fun t =>
      t.mem == (bytesAt 0x2000 [0, 0, 0, 0x80]) &&
      !t.status.cf) = true := by
  decide

/-- 95_test_vectors.md, section 2.6. -/
theorem test_cbw :
    gives (run [0x66, 0x98]
      (start [(.eax, 0xAAAA0080)] [])) (fun t =>
      t.reg32 .eax == 0xAAAAFF80) = true := by
  decide

/-- 95_test_vectors.md, section 2.6. -/
theorem test_cbw_positive :
    gives (run [0x66, 0x98]
      (start [(.eax, 0xAAAAFF7F)] [])) (fun t =>
      t.reg32 .eax == 0xAAAA007F) = true := by
  decide

/-- 95_test_vectors.md, section 2.6. -/
theorem test_cwde :
    gives (run [0x98]
      (start [(.eax, 0x12348000)] [])) (fun t =>
      t.reg32 .eax == 0xFFFF8000) = true := by
  decide

/-- 95_test_vectors.md, section 2.6. -/
theorem test_cwd :
    gives (run [0x66, 0x99]
      (start [(.eax, 0x8000), (.edx, 0x12345678)] [])) (fun t =>
      t.reg32 .eax == 0x8000 &&
      t.reg32 .edx == 0x1234FFFF) = true := by
  decide

/-- 95_test_vectors.md, section 2.6. -/
theorem test_cdq :
    gives (run [0x99]
      (start [(.eax, 0x80000000), (.edx, 1)] [])) (fun t =>
      t.reg32 .eax == 0x80000000 &&
      t.reg32 .edx == 0xFFFFFFFF) = true := by
  decide

/-- 95_test_vectors.md, section 2.6. -/
theorem test_clc :
    gives (run [0xF8]
      { start [] [] with
        status := { State.reset.status with cf := true, zf := true } }) (fun t =>
      t.pc == 0x1001 &&
      flagsAre t false false false true false false) = true := by
  decide

/-- 95_test_vectors.md, section 2.6. -/
theorem test_cmc :
    gives (run [0xF5]
      (start [] [])) (fun t =>
      t.pc == 0x1001 &&
      flagsAre t true false false false false false) = true := by
  decide

/-- 95_test_vectors.md, section 2.6. -/
theorem test_cmc_set :
    gives (run [0xF5]
      { start [] [] with
        status := { State.reset.status with cf := true } }) (fun t =>
      t.pc == 0x1001 &&
      flagsAre t false false false false false false) = true := by
  decide

/-- 95_test_vectors.md, section 2.6. -/
theorem test_cld :
    gives (run [0xFC]
      { start [] [] with
        flags := { State.reset.flags with df := true }
        status := { State.reset.status with cf := true } }) (fun t =>
      t.pc == 0x1001 &&
      !t.flags.df &&
      t.status.cf) = true := by
  decide

/-- 95_test_vectors.md, section 2.7. -/
theorem test_call_rel32 :
    gives (run [0xE8, 0xFB, 0xFF, 0xFF, 0xFF]
      (start [(.esp, 0x8000)] [])) (fun t =>
      t.reg32 .esp == 0x7FFC &&
      t.pc == 0x1000 &&
      t.mem == (bytesAt 0x7FFC [5, 0x10, 0, 0])) = true := by
  decide

/-- 95_test_vectors.md, section 2.7. -/
theorem test_call_rel16 :
    gives (run [0x66, 0xE8, 0x00, 0x20]
      { start [(.esp, 0x8000)] [] with
        pc := 0xF000 }) (fun t =>
      t.reg32 .esp == 0x7FFE &&
      t.pc == 0x1004 &&
      t.mem == (bytesAt 0x7FFE [4, 0xF0])) = true := by
  decide

/-- 95_test_vectors.md, section 2.7. -/
theorem test_call_rel16_wraps :
    gives (run [0x66, 0xE8, 0x00, 0x00]
      { start [(.esp, 0x8000)] [] with
        pc := 0x12000 }) (fun t =>
      t.reg32 .esp == 0x7FFE &&
      t.pc == 0x2004 &&
      t.mem == (bytesAt 0x7FFE [4, 0x20])) = true := by
  decide

/-- 95_test_vectors.md, section 2.7. -/
theorem test_call_rm32_esp :
    gives (run [0xFF, 0xD4]
      (start [(.esp, 0x8000)] [])) (fun t =>
      t.reg32 .esp == 0x7FFC &&
      t.pc == 0x8000 &&
      t.mem == (bytesAt 0x7FFC [2, 0x10, 0, 0])) = true := by
  decide

/-- 95_test_vectors.md, section 2.7. -/
theorem test_call_rm32_memory :
    gives (run [0xFF, 0x14, 0x24]
      (start [(.esp, 0x8000)] (bytesAt 0x8000 [0, 0x30, 0, 0]))) (fun t =>
      t.reg32 .esp == 0x7FFC &&
      t.pc == 0x3000 &&
      t.mem == (bytesAt 0x7FFC [3, 0x10, 0, 0] ++ bytesAt 0x8000 [0, 0x30, 0, 0])) = true := by
  decide

/-- 95_test_vectors.md, section 2.7. -/
theorem test_call_stack_limit :
    stops (run [0xE8, 0x00, 0x00, 0x00, 0x00]
      { start [(.esp, 2)] [] with
        segs := { State.reset.segs with ss := { Segment.flatData with limit := 0x7FFF } } })
      (.exception .ss (some 0) 0x1000 none) = true := by
  decide

/-- 95_test_vectors.md, section 2.7. -/
theorem test_call_target_limit :
    stops (run [0xFF, 0x13]
      { start [(.ebx, 0x2000), (.esp, 0x8000)] (bytesAt 0x2000 [0, 0, 1, 0]) with
        segs := { State.reset.segs with cs := { Segment.flatCode with limit := 0xFFFF } } })
      (.exception .gp (some 0) 0x1000 none) = true := by
  decide

/-- 95_test_vectors.md, section 2.7. -/
theorem test_call_ptr16_real :
    gives (run [0x9A, 0x00, 0x01, 0x00, 0x20]
      { start [(.esp, 0x100)] [] with
        cr0 := { State.reset.cr0 with pe := false }
        pc := 0x10
        segs := { State.reset.segs with cs := { Segment.flatCode with selector := 0x1000, base := 0x10000, big := false, limit := 0xFFFF } } }) (fun t =>
      t.reg32 .esp == 0xFC &&
      t.pc == 0x100 &&
      t.mem.take 2 == bytesAt 0xFC [0x15, 0] && t.segs.cs.selector == 0x2000 && t.segs.cs.base == 0x20000) = true := by
  decide

/-- 95_test_vectors.md, section 2.7. -/
theorem test_call_ptr32_real :
    gives (run [0x66, 0x9A, 0x00, 0x01, 0x00, 0x00, 0x00, 0x20]
      { start [(.esp, 0x100)] [] with
        cr0 := { State.reset.cr0 with pe := false }
        pc := 0x10
        segs := { State.reset.segs with cs := { Segment.flatCode with selector := 0x1000, base := 0x10000, big := false, limit := 0xFFFF } } }) (fun t =>
      t.reg32 .esp == 0xF8 &&
      t.pc == 0x100 &&
      t.mem.take 4 == bytesAt 0xF8 [0x18, 0, 0, 0] && t.mem.map Prod.fst == [0xF8, 0xF9, 0xFA, 0xFB, 0xFC, 0xFD, 0xFE, 0xFF]) = true := by
  decide

/-- 95_test_vectors.md, section 2.7. -/
theorem test_call_far_null :
    stops (run [0xFF, 0x1B]
      (start [(.ebx, 0x2000), (.esp, 0x8000)] (bytesAt 0x2000 [0, 0x30, 0, 0, 3, 0])))
      (.exception .gp (some 0) 0x1000 none) = true := by
  decide

/-- 95_test_vectors.md, section 2.8. -/
theorem test_cli_real :
    gives (run [0xFA]
      { start [] [] with
        flags := { State.reset.flags with ifl := true, vif := true }
        cr0 := { State.reset.cr0 with pe := false } }) (fun t =>
      !t.flags.ifl && t.flags.vif) = true := by
  decide

/-- 95_test_vectors.md, section 2.8. -/
theorem test_cli_pvi :
    gives (run [0xFA]
      { start [] [] with
        flags := { State.reset.flags with ifl := true, vif := true }
        cpl := 3
        cr4 := { State.reset.cr4 with pvi := true } }) (fun t =>
      t.flags.ifl && !t.flags.vif) = true := by
  decide

/-- 95_test_vectors.md, section 2.8. -/
theorem test_cli_protection :
    stops (run [0xFA]
      { start [] [] with
        flags := { State.reset.flags with ifl := true, vif := true, iopl := 1 }
        cpl := 2
        cr4 := { State.reset.cr4 with pvi := true } })
      (.exception .gp (some 0) 0x1000 none) = true := by
  decide

/-- 95_test_vectors.md, section 2.8. -/
theorem test_cli_v86 :
    stops (run [0xFA]
      { start [] [] with
        flags := { State.reset.flags with ifl := true, vif := true, iopl := 2, vm := true } })
      (.exception .gp (some 0) 0x1000 none) = true := by
  decide

/-- 95_test_vectors.md, section 2.8. -/
theorem test_clts :
    gives (run [0x0F, 0x06]
      { start [] [] with
        cr0 := { State.reset.cr0 with ts := true } }) (fun t =>
      !t.cr0.ts) = true := by
  decide

/-- 95_test_vectors.md, section 2.8. -/
theorem test_clts_user :
    stops (run [0x0F, 0x06]
      { start [] [] with
        cpl := 3 })
      (.exception .gp (some 0) 0x1000 none) = true := by
  decide

/-- 95_test_vectors.md, section 2.8. -/
theorem test_clts_intercept :
    stops (run [0x0F, 0x06]
      { start [] [] with
        cfg := { resetConfig with env := .itaniumSE } })
      (.intercept .instClts 0x1000) = true := by
  decide

/-- 95_test_vectors.md, section 2.9. -/
theorem test_cmovo_false :
    gives (run [0x0F, 0x40, 0xC3]
      (start [(.eax, 1), (.ebx, 2)] [])) (fun t =>
      t.reg32 .eax == 1 &&
      t.pc == 0x1003) = true := by
  decide

/-- 95_test_vectors.md, section 2.9. -/
theorem test_cmovo :
    gives (run [0x0F, 0x40, 0xC3]
      { start [(.eax, 1), (.ebx, 2)] [] with
        status := { State.reset.status with ofl := true } }) (fun t =>
      t.reg32 .eax == 2) = true := by
  decide

/-- 95_test_vectors.md, section 2.9. The negated row. -/
theorem test_cmovno :
    gives (run [0x0F, 0x41, 0xC3]
      { start [(.eax, 1), (.ebx, 2)] [] with
        status := { State.reset.status with ofl := true } }) (fun t =>
      t.reg32 .eax == 1) = true := by
  decide

/-- 95_test_vectors.md, section 2.9. -/
theorem test_cmovb :
    gives (run [0x0F, 0x42, 0xC3]
      { start [(.eax, 1), (.ebx, 2)] [] with
        status := { State.reset.status with cf := true } }) (fun t =>
      t.reg32 .eax == 2) = true := by
  decide

/-- 95_test_vectors.md, section 2.9. The negated row. -/
theorem test_cmovae :
    gives (run [0x0F, 0x43, 0xC3]
      { start [(.eax, 1), (.ebx, 2)] [] with
        status := { State.reset.status with cf := true } }) (fun t =>
      t.reg32 .eax == 1) = true := by
  decide

/-- 95_test_vectors.md, section 2.9. -/
theorem test_cmove16_memory :
    gives (run [0x66, 0x0F, 0x44, 0x03]
      { start [(.eax, 0xAAAAAAAA), (.ebx, 0x2000)] (bytesAt 0x2000 [0x34, 0x12]) with
        status := { State.reset.status with zf := true } }) (fun t =>
      t.reg32 .eax == 0xAAAA1234) = true := by
  decide

/-- 95_test_vectors.md, section 2.9. The negated row. -/
theorem test_cmovne :
    gives (run [0x0F, 0x45, 0xC3]
      { start [(.eax, 1), (.ebx, 2)] [] with
        status := { State.reset.status with zf := true } }) (fun t =>
      t.reg32 .eax == 1) = true := by
  decide

/-- 95_test_vectors.md, section 2.9. -/
theorem test_cmovbe_false :
    gives (run [0x0F, 0x46, 0xC3]
      (start [(.eax, 1), (.ebx, 2)] [])) (fun t =>
      t.reg32 .eax == 1) = true := by
  decide

/-- 95_test_vectors.md, section 2.9. -/
theorem test_cmova :
    gives (run [0x0F, 0x47, 0xC3]
      (start [(.eax, 1), (.ebx, 2)] [])) (fun t =>
      t.reg32 .eax == 2) = true := by
  decide

/-- 46_cmov_string_cmpxchg.md R301, R310. -/
theorem test_cmovs :
    gives (run [0x0F, 0x48, 0xC3]
      { start [(.eax, 1), (.ebx, 2)] [] with
        status := { State.reset.status with sf := true } }) (fun t =>
      t.reg32 .eax == 2) = true := by
  decide

/-- 46_cmov_string_cmpxchg.md R301, R311. -/
theorem test_cmovns :
    gives (run [0x0F, 0x49, 0xC3]
      { start [(.eax, 1), (.ebx, 2)] [] with
        status := { State.reset.status with sf := true } }) (fun t =>
      t.reg32 .eax == 1) = true := by
  decide

/-- 46_cmov_string_cmpxchg.md R301, R312. -/
theorem test_cmovp :
    gives (run [0x0F, 0x4A, 0xC3]
      { start [(.eax, 1), (.ebx, 2)] [] with
        status := { State.reset.status with pf := true } }) (fun t =>
      t.reg32 .eax == 2) = true := by
  decide

/-- 46_cmov_string_cmpxchg.md R301, R313. -/
theorem test_cmovnp :
    gives (run [0x0F, 0x4B, 0xC3]
      { start [(.eax, 1), (.ebx, 2)] [] with
        status := { State.reset.status with pf := true } }) (fun t =>
      t.reg32 .eax == 1) = true := by
  decide

/-- 95_test_vectors.md, section 2.9. -/
theorem test_cmovl_false :
    gives (run [0x0F, 0x4C, 0xC3]
      { start [(.eax, 1), (.ebx, 2)] [] with
        status := { State.reset.status with sf := true, ofl := true } }) (fun t =>
      t.reg32 .eax == 1) = true := by
  decide

/-- 46_cmov_string_cmpxchg.md R301, R315. -/
theorem test_cmovge :
    gives (run [0x0F, 0x4D, 0xC3]
      { start [(.eax, 1), (.ebx, 2)] [] with
        status := { State.reset.status with sf := true, ofl := true } }) (fun t =>
      t.reg32 .eax == 2) = true := by
  decide

/-- 95_test_vectors.md, section 2.9. -/
theorem test_cmovle :
    gives (run [0x0F, 0x4E, 0xC3]
      { start [(.eax, 1), (.ebx, 2)] [] with
        status := { State.reset.status with sf := true } }) (fun t =>
      t.reg32 .eax == 2) = true := by
  decide

/-- 95_test_vectors.md, section 2.9. -/
theorem test_cmovg_false :
    gives (run [0x0F, 0x4F, 0xC3]
      { start [(.eax, 1), (.ebx, 2)] [] with
        status := { State.reset.status with zf := true } }) (fun t =>
      t.reg32 .eax == 1) = true := by
  decide

/-- 95_test_vectors.md, section 2.9. -/
theorem test_cmov_false_load :
    stops (run [0x0F, 0x44, 0x03]
      { start [(.ebx, 0x2000)] [] with
        cfg := { resetConfig with cmovFalseLoads := .always, pages := [{ page := 2, fetch := .frame 2, read := .fault .pageNotPresent, write := .frame 2 }] } })
      (.exception .pf none 0x1000 (some { la := 0x2000, kind := .read })) = true := by
  decide

/-- 95_test_vectors.md, section 2.9. -/
theorem test_cmpxchg8 :
    gives (run [0x0F, 0xB0, 0x0B]
      (start [(.eax, 0x11223380), (.ecx, 0x55), (.ebx, 0x2000)] (bytesAt 0x2000 [0x80]))) (fun t =>
      t.reg32 .eax == 0x11223380 &&
      t.mem == (bytesAt 0x2000 [0x55]) &&
      flagsAre t false true false true false false) = true := by
  decide

/-- 95_test_vectors.md, section 2.9. -/
theorem test_cmpxchg8_different :
    gives (run [0x0F, 0xB0, 0x0B]
      (start [(.eax, 0x11223380), (.ecx, 0x55), (.ebx, 0x2000)] (bytesAt 0x2000 [1]))) (fun t =>
      t.reg32 .eax == 0x11223301 &&
      t.mem == (bytesAt 0x2000 [1]) &&
      t.stored == [0x2000] &&
      flagsAre t false false true false false true) = true := by
  decide

/-- 95_test_vectors.md, section 2.9. -/
theorem test_cmpxchg32_itself :
    gives (run [0x0F, 0xB1, 0xC8]
      (start [(.eax, 7), (.ecx, 9)] [])) (fun t =>
      t.reg32 .eax == 9 &&
      flagsAre t false true false true false false) = true := by
  decide

/-- 95_test_vectors.md, section 2.9. -/
theorem test_cmpxchg32_different :
    gives (run [0x0F, 0xB1, 0xCA]
      (start [(.edx, 0x80000000), (.ecx, 9)] [])) (fun t =>
      t.reg32 .eax == 0x80000000 &&
      t.reg32 .edx == 0x80000000 &&
      flagsAre t true true false false true true) = true := by
  decide

/-- 95_test_vectors.md, section 2.9. -/
theorem test_cmpxchg16 :
    gives (run [0x66, 0x0F, 0xB1, 0x0B]
      (start [(.eax, 0xFFFF1234), (.ecx, 0xBEEF), (.ebx, 0x2000)] (bytesAt 0x2000 [0x34, 0x12]))) (fun t =>
      t.reg32 .eax == 0xFFFF1234 &&
      t.mem == (bytesAt 0x2000 [0xEF, 0xBE]) &&
      flagsAre t false true false true false false) = true := by
  decide

/-- 95_test_vectors.md, section 2.9. -/
theorem test_cmpxchg8b_equal :
    gives (run [0x0F, 0xC7, 0x0B]
      { start [(.edx, 0xFFFFFFFF), (.eax, 0xFFFFFFFF), (.ecx, 1), (.ebx, 0x2000)] (bytesAt 0x2000 [0xFF, 0xFF, 0xFF, 0xFF, 0xFF, 0xFF, 0xFF, 0xFF]) with
        status := { State.reset.status with cf := true, sf := true } }) (fun t =>
      t.mem == (bytesAt 0x2000 [0, 0x20, 0, 0, 1, 0, 0, 0]) &&
      flagsAre t true false false true true false) = true := by
  decide

/-- 95_test_vectors.md, section 2.9. -/
theorem test_cmpxchg8b_different :
    gives (run [0x0F, 0xC7, 0x0B]
      { start [(.ebx, 0x2000)] (bytesAt 0x2000 [0x78, 0x56, 0x34, 0x12, 0xF0, 0xDE, 0xBC, 0x9A]) with
        status := { State.reset.status with zf := true } }) (fun t =>
      t.reg32 .eax == 0x12345678 &&
      t.reg32 .edx == 0x9ABCDEF0 &&
      t.mem == (bytesAt 0x2000 [0x78, 0x56, 0x34, 0x12, 0xF0, 0xDE, 0xBC, 0x9A]) &&
      !t.status.zf) = true := by
  decide

/-- 95_test_vectors.md, section 2.9. -/
theorem test_lock_cmpxchg_intercept :
    stops (run [0xF0, 0x0F, 0xB1, 0x0B]
      { start [(.ebx, 0x2000)] (bytesAt 0x2000 [0, 0, 0, 0]) with
        cfg := { resetConfig with env := .itaniumSE, lockRequired := [{ op := .cmpxchg, la := 0x2000, bytes := 4 }] }
        dcrLc := true })
      (.intercept (.lock .cmpxchg) 0x1000) = true := by
  decide

/-- 95_test_vectors.md, section 2.9. -/
theorem test_lock_cmpxchg :
    gives (run [0xF0, 0x0F, 0xB1, 0x0B]
      { start [(.ebx, 0x2000), (.ecx, 5)] (bytesAt 0x2000 [0, 0, 0, 0]) with
        cfg := { resetConfig with env := .itaniumSE, lockRequired := [{ op := .cmpxchg, la := 0x2000, bytes := 4 }] } }) (fun t =>
      t.mem == (bytesAt 0x2000 [5, 0, 0, 0]) &&
      t.status.zf) = true := by
  decide

/-- 95_test_vectors.md, section 2.9. -/
theorem test_cmpsb_down :
    gives (run [0xA6]
      { start [(.esi, 0x2000), (.edi, 0x2000)] (bytesAt 0x2000 [0x7F]) with
        flags := { State.reset.flags with df := true } }) (fun t =>
      t.reg32 .esi == 0x1FFF &&
      t.reg32 .edi == 0x1FFF &&
      flagsAre t false true false true false false) = true := by
  decide

/-- 95_test_vectors.md, section 2.9. -/
theorem test_cmpsb_address16 :
    gives (run [0x67, 0xA6]
      (start [(.esi, 0x1234FFFF), (.edi, 0x5678FFFF)] (bytesAt 0xFFFF [0x42]))) (fun t =>
      t.reg32 .esi == 0x12340000 &&
      t.reg32 .edi == 0x56780000 &&
      flagsAre t false true false true false false) = true := by
  decide

/-- 95_test_vectors.md, section 2.9. -/
theorem test_cmpsw :
    gives (run [0x66, 0xA7]
      (start [(.esi, 0x2000), (.edi, 0x2002)] (bytesAt 0x2000 [0, 0x80, 1, 0]))) (fun t =>
      t.reg32 .esi == 0x2002 &&
      t.reg32 .edi == 0x2004 &&
      flagsAre t false true true false false true) = true := by
  decide

/-- 95_test_vectors.md, section 2.9. -/
theorem test_cmpsd_down :
    gives (run [0xA7]
      { start [(.esi, 2), (.edi, 0x2000)] (bytesAt 2 [0x11, 0x22, 0x33, 0x44] ++ bytesAt 0x2000 [0x11, 0x22, 0x33, 0x44]) with
        flags := { State.reset.flags with df := true } }) (fun t =>
      t.reg32 .esi == 0xFFFFFFFE &&
      t.reg32 .edi == 0x1FFC &&
      flagsAre t false true false true false false) = true := by
  decide

/-- 95_test_vectors.md, sections 1.7 and 2.10. -/
theorem test_cpuid_vendor :
    gives (run [0x0F, 0xA2]
      (start [] [])) (fun t =>
      t.reg32 .eax == 2 &&
      t.reg32 .ebx == 0x756E6547 &&
      t.reg32 .ecx == 0x6C65746E &&
      t.reg32 .edx == 0x49656E69 &&
      flagsAre t false false false false false false) = true := by
  decide

/-- 95_test_vectors.md, section 2.10. -/
theorem test_cpuid_features :
    gives (run [0x0F, 0xA2]
      { start [(.eax, 1)] [] with
        cfg := { resetConfig with cpuid := { resetConfig.cpuid with leaves := [(1, { eax := 0, ebx := 0x1234, ecx := 0, edx := 0 })] } } }) (fun t =>
      t.reg32 .ebx == 0x1200) = true := by
  decide

/-- 95_test_vectors.md, section 2.10: bits 30, 15 and 8 are set whatever the reserved bits are. -/
theorem test_cpuid_feature_bits (free : CpuidRow) (k : Nat) (h : k ∈ [8, 15, 30]) :
    (cpuidRow resetConfig.cpuid 1 free).edx.getLsbD k = true := by
  have range : cpuidInRange resetConfig.cpuid 1 = true := rfl
  simp only [cpuidRow, range, maskedRow]
  rw [maskedBits_getLsbD _ _ _ _ (by simp at h; omega)]
  fin_cases h <;> simp [cpuidReserved, cpuidFixed, leaf1Edx]

/-! ## Witnesses: for every obligation with hypotheses, a state and operands that meet them -/

/-- No NaT bit matters in the IA-32 System Environment. -/
theorem readable_ia32 {s : State} {rs : List Reg} (h : s.itaniumSE = false) : Readable s rs := by
  intro h'
  rw [h] at h'
  cases h'

/-- `[EBX]`. -/
def atBx : MemOp := { seg := .ds, ea := .a32 (some .ebx) none 0 }

/-- A flat 32-bit state with eight bytes of data at `[EBX]`, also where ESI and EDI point. -/
def base : State :=
  start [(.eax, 0x0A), (.ecx, 9), (.edx, 0), (.ebx, 0x2000), (.esp, 0x8000), (.esi, 0x2000), (.edi, 0x2004)]
    (bytesAt 0x2000 [0x03, 0, 0, 0, 0x0A, 0, 0, 0])

/-- The same in the Itanium System Environment. -/
def ise : State := { base with cfg := { resetConfig with env := .itaniumSE } }

/-- The same with the NaT bit of EAX set. -/
def iseNat : State := { ise with nat := { ise.nat with eax := true } }

/-- Accesses to `[EBX]` are outside DS. -/
def shortDs (s : State) : State := { s with segs := { s.segs with ds := { s.segs.ds with limit := 0x1FFF } } }

/-- The same state under the other `bcd_variant`. -/
def later (s : State) : State := { s with cfg := { s.cfg with bcdVariant := .laterEdition } }

def withEax (s : State) (v : DWord) : State := s.set32 .eax v

/-- 16-bit code. -/
def small (s : State) : State := { s with segs := { s.segs with cs := { s.segs.cs with big := false } } }

/-- Real-address mode, with the code of `base`. -/
def real (s : State) : State := { small s with cr0 := { s.cr0 with pe := false } }

/-- Virtual-8086 mode. -/
def v86 (s : State) : State := { small s with flags := { s.flags with vm := true } }

theorem witness_DecodeInvertsEncode :
    (Instr.addRm32R32 true (.mem { seg := .fs, ea := .a16 (some .bpDi) 0xFFFF }) .edi).wellFormed = true := by
  decide

theorem witness_DecoderReadsOneWellFormedInstruction :
    decode .s16 [0x0F, 0xBA, 0x3F, 0x07, 0x90] =
      .done (.btcRm16Ib false (.mem { seg := .ds, ea := .a16 (some .bx) 0 }) 7) [0x90] := by
  decide

theorem witness_RepeatPrefixIsRefused :
    (∀ p ∈ [(0x66 : Byte), 0xF0], p ∈ [(0xF0 : Byte), 0xF2, 0xF3, 0x26, 0x2E, 0x36, 0x3E, 0x64, 0x65, 0x66, 0x67]) ∧
    (0xF3 : Byte) ∈ [(0xF2 : Byte), 0xF3] := by
  decide

/-- The lowest and the highest ModR/M byte of each clause. -/
theorem witness_ReservedEncodingsAreUndefined :
    5 ≤ [(0 : Byte), 0, 0, 0, 0].length ∧
    (∀ m ∈ [(0xC0 : Byte), 0xFF], m.extractLsb' 6 2 = 3) ∧
    (∀ m ∈ [(0xD8 : Byte), 0xDF], m.extractLsb' 6 2 = 3 ∧ m.extractLsb' 3 3 = 3) ∧
    (∀ m ∈ [(0x38 : Byte), 0xFF], m.extractLsb' 3 3 = 7) ∧
    (∀ m ∈ [(0x10 : Byte), 0xFF], 2 ≤ (m.extractLsb' 3 3).toNat) ∧
    (∀ m ∈ [(0x00 : Byte), 0xDF], (m.extractLsb' 3 3).toNat < 4) ∧
    (∀ m ∈ [(0x00 : Byte), 0xD7], m.extractLsb' 3 3 ≠ 1) := by
  decide

/-- A form of each kind that LOCK may not stand before: a bare one, one with a memory source, one with a memory operand
that it only reads, and register destinations of the lockable instructions. -/
theorem witness_LockNeedsMemoryDestination :
    decode .s32 [0xF0, 0x01, 0x03] = .done (.addRm32R32 true (.mem atBx) .eax) [] ∧
    (∀ i ∈ [Instr.cpuid, .cmpRm32R32 (.mem atBx) .eax, .btRm32R32 (.mem atBx) .eax, .andAlIb 1,
      .btcRm16Ib false (.reg .edi) 15, .cmpxchgRm8R8 false (.reg .bh) .ah, .decR32 .esp], NotLockable i ∧ i.wellFormed = true) := by
  refine ⟨by decide, fun i h => ?_⟩
  simp only [List.mem_cons, List.not_mem_nil, or_false] at h
  rcases h with rfl | rfl | rfl | rfl | rfl | rfl | rfl
  · exact ⟨.alone _ (by simp), by decide⟩
  · exact ⟨.cmp _ _ _ _ (.rm32R32 false (.mem atBx) .eax), by decide⟩
  · exact ⟨.bt _ _ _ _ (.bt32 (.mem atBx) .eax), by decide⟩
  · exact ⟨.alu andForms (by simp) _ _ _ _ (.alIb 1) nofun, by decide⟩
  · exact ⟨.bit .btc _ _ _ _ (.btc16i false (.reg .edi) 15) nofun, by decide⟩
  · exact ⟨.cmpxchg _ _ _ _ _ (.rm8 false (.reg .bh) .ah) nofun, by decide⟩
  · exact ⟨.dec _ _ _ (.r32 .esp) nofun, by decide⟩

/-! ### The step -/

/-- One instruction at the instruction pointer, zeros after it. -/
def placed (s : State) (nbits w : Nat) : State := s.withFetchWord nbits w

/-- Fetching and decoding give this instruction, of this length. -/
def fetches (s : State) (i : Instr) (n : Nat) : Bool :=
  decide (decode s.codeSize (s.fetchWindow 15 0).bytes = .done i ((s.fetchWindow 15 0).bytes.drop n)) && !s.atEnd &&
    !s.highFpFault

/-- A descriptor table at 3000H, the code, conforming code and data segments of privilege level 0, a code segment that is
not present, gates to the code segment and to an available TSS, and a TSS at 4000H with the stack of level 0. -/
def tables : List Host.Cell :=
  bytesAt 0x3000 [0, 0, 0, 0, 0, 0, 0, 0, 0xFF, 0xFF, 0, 0, 0, 0x9A, 0xCF, 0, 0xFF, 0xFF, 0, 0, 0, 0x92, 0xCF, 0,
    0xFF, 0xFF, 0, 0, 0, 0x9E, 0xCF, 0, 0, 0x50, 0x08, 0, 0, 0xEC, 0, 0, 0x67, 0, 0, 0x40, 0, 0xE9, 0, 0,
    0, 0, 0x28, 0, 0, 0xE5, 0, 0, 0xFF, 0xFF, 0, 0, 0, 0x1A, 0xCF, 0, 0, 0x50, 0x08, 0, 1, 0xEC, 0, 0,
    0, 0, 0, 0, 0, 0x8E, 0, 0] ++
  bytesAt 0x4000 [0, 0, 0, 0, 0, 0x90, 0, 0, 0x10, 0, 0, 0] ++ bytesAt 0x8000 [0x78, 0x56, 0x34, 0x12]

/-- A flat protected-mode state at privilege level 0 with these tables. -/
def far : State :=
  { start [(.esp, 0x8000)] tables with
    gdtr := { base := 0x3000, limit := 0x4F }
    tr := { selector := 0x28, base := 0x4000, limit := 0x67, is32 := true } }

/-- The same at privilege level 3. -/
def farUser : State :=
  { far with
    cpl := 3
    segs := { far.segs with cs := { Segment.flatCode with selector := 0x4B, dpl := 3 } } }

/-- The same in the Itanium System Environment. -/
def farIse : State := { far with cfg := { resetConfig with env := .itaniumSE } }

theorem witness_StepRunsDecodedInstruction :
    fetches (placed base 8 0xF8) .clc 1 = true ∧
    (∃ t, exec .clc { placed base 8 0xF8 with nextPc := 0x1001 } = .next t) ∧
    (let s := { placed ise 40 0xE8 with psr := { dfl := false, dfh := false, tb := true, i := false } }
     fetches s (.callRel32 0) 5 = true ∧ ∃ t, exec (.callRel32 0) { s with nextPc := 0x1005 } = .fault (.debugTrap t)) ∧
    (let s := { placed ise 8 0xFA with cflg := { ifl := false, ii := true }, flags := { ise.flags with ifl := true } }
     fetches s .cli 1 = true ∧ ∃ t, exec .cli { s with nextPc := 0x1001 } = .fault (.systemFlagTrap t)) ∧
    (let s := placed base 16 0xF2F7
     fetches s (.divRm32 (.reg .edx)) 2 = true ∧
     exec (.divRm32 (.reg .edx)) { s with nextPc := 0x1002 } = .fault (.exception .de none 0x1000 none)) ∧
    (let s := placed ise 16 0x060F
     fetches s .clts 2 = true ∧ exec .clts { s with nextPc := 0x1002 } = .fault (.intercept .instClts 0x1000)) ∧
    (let s := placed iseNat 8 0x98
     fetches s .cwde 1 = true ∧ exec .cwde { s with nextPc := 0x1001 } = .fault (.itanium .natConsumption 0x1000 none)) ∧
    (let s := placed far 56 0x0028000000009A
     fetches s (.callPtr32 0x28 0) 7 = true ∧
     exec (.callPtr32 0x28 0) { s with nextPc := 0x1007 } = .refused .taskSwitch) := by
  refine ⟨?_, ⟨_, rfl⟩, ⟨?_, _, rfl⟩, ⟨?_, _, rfl⟩, ⟨?_, rfl⟩, ⟨?_, rfl⟩, ⟨?_, rfl⟩, ?_, rfl⟩ <;> decide

/-- The state an outcome goes on to. -/
def after (o : Host.Outcome State Fault Refusal) : State :=
  match o with
  | .next t => t
  | .fault (.debugTrap t) => t
  | .fault (.systemFlagTrap t) => t
  | .fault _ => State.reset
  | .refused _ => State.reset

theorem witness_StepStopsBeforeExecuting :
    (let s := { base with cfg := { resetConfig with endEip := some 0x1000 } }
     s.cfg.endEip = some s.pc) ∧
    (let s := { ise with psr := { dfl := false, dfh := true, tb := false, i := false } }
     s.cfg.endEip ≠ some s.pc ∧ s.itaniumSE = true ∧ s.firstAfterEntry = true ∧ s.psr.dfh = true) ∧
    base.cfg.endEip ≠ some base.pc ∧ base.highFpFault = false ∧
    (let s := { placed base 8 0x05 with segs := { base.segs with cs := { base.segs.cs with limit := 0x1000 } } }
     decode s.codeSize (s.fetchWindow 15 0).bytes = .truncated ∧
     (s.fetchWindow 15 0).stop = some (.fault (.exception .gp (some 0) 0x1000 none))) ∧
    (let s := placed base 120 0x666666666666666666666666666666
     decode s.codeSize (s.fetchWindow 15 0).bytes = .truncated ∧ (s.fetchWindow 15 0).stop = none) ∧
    (let s := placed base 16 0xC362
     decode s.codeSize (s.fetchWindow 15 0).bytes = .undefined) ∧
    (let s := placed base 8 0xC3
     decode s.codeSize (s.fetchWindow 15 0).bytes = .outOfScope false 0xC3) ∧
    (let s := placed base 16 0xA6F3
     decode s.codeSize (s.fetchWindow 15 0).bytes = .rep) := by
  decide

/-- The first byte and the third, of an instruction of five: beyond the limit, on a page whose fetch faults, stored to. -/
theorem witness_FetchChecksLimitAndModifiedCode :
    let beyond := fun (s : State) (k : Nat) =>
      { s with segs := { s.segs with cs := { s.segs.cs with limit := BitVec.ofNat 32 (0xFFF + k) } } }
    let absent := fun s : State =>
      { s with cfg := { s.cfg with pages :=
        [{ page := 1, fetch := .fault .pageNotPresent, read := .frame 1, write := .frame 1 }] } }
    let changed := fun (s : State) (k : Nat) => { s with stored := [0x1000 + k] }
    let call := placed base 40 0xE8
    (∀ s ∈ [beyond call 0, beyond call 2, absent call, changed call 0, changed call 2],
      s.atEnd = false ∧ s.highFpFault = false ∧ s.codeSize = .s32) ∧
    decode .s32 [] = .truncated ∧ decode .s32 [0xE8, 0] = .truncated ∧
    (beyond call 0).segs.cs.limit.toNat < (base.pc + BitVec.ofNat 32 0).toNat ∧
    (beyond call 2).segs.cs.limit.toNat < (base.pc + BitVec.ofNat 32 2).toNat ∧
    (∀ s ∈ [beyond call 2, changed call 2], (s.pc + BitVec.ofNat 32 0).toNat ≤ s.segs.cs.limit.toNat ∧
      (s.pc + BitVec.ofNat 32 1).toNat ≤ s.segs.cs.limit.toNat ∧ Memory.read s.mem 0x1000 = 0xE8 ∧
      Memory.read s.mem 0x1001 = 0 ∧ 0x1000 ∉ s.stored ∧ 0x1001 ∉ s.stored) ∧
    (absent call).translate .fetch 0x1000 =
      .error (.fault (.exception .pf none 0x1000 (some { la := 0x1000, kind := .fetch }))) ∧
    (changed call 2).translate .fetch 0x1001 = .ok 0x1001 ∧
    (changed call 0).translate .fetch 0x1000 = .ok 0x1000 ∧ 0x1000 ∈ (changed call 0).stored ∧
    (changed call 2).translate .fetch 0x1002 = .ok 0x1002 ∧ 0x1002 ∈ (changed call 2).stored := by
  refine ⟨?_, by decide, by decide, by decide, by decide, ?_, rfl, rfl, rfl, by decide, rfl, by decide⟩
  · intro s h
    simp only [List.mem_cons, List.not_mem_nil, or_false] at h
    rcases h with rfl | rfl | rfl | rfl | rfl <;> exact ⟨by decide, by decide, rfl⟩
  · intro s h
    simp only [List.mem_cons, List.not_mem_nil, or_false] at h
    rcases h with rfl | rfl <;> decide

/-! ### Rules of the whole machine -/

/-- `ADD [EBX],EAX` at the instruction pointer. -/
def adding : State := placed base 16 0x0301

theorem witness_EveryStepKeepsMemoryCanonical :
    Memory.wf adding.mem = true ∧ rising adding.stored = true ∧ StepsTo adding (after (step adding)) :=
  ⟨by decide, by decide, .inl rfl⟩

theorem witness_EveryStepKeepsSystemState : StepsTo adding (after (step adding)) :=
  .inl rfl

theorem witness_EveryStepKeepsPrivilegeInSelector :
    adding.protectedMode = true ∧ rpl adding.segs.cs.selector = adding.cpl ∧ StepsTo adding (after (step adding)) :=
  ⟨by decide, by decide, .inl rfl⟩

theorem witness_ChangedBytesAreRecorded :
    StepsTo adding (after (step adding)) ∧
    Memory.read (after (step adding)).mem 0x2000 ≠ Memory.read adding.mem 0x2000 :=
  ⟨.inl rfl, by decide⟩

/-- A far CALL through a call gate from privilege level 3. -/
def rising3 : State := placed farUser 56 0x0023000000009A

theorem witness_PrivilegeRisesOnlyByFarCall :
    StepsTo rising3 (after (step rising3)) ∧ (after (step rising3)).cpl ≠ rising3.cpl :=
  ⟨.inl rfl, by decide⟩

theorem witness_TaskSwitchedClearedOnlyWithPrivilege :
    let s := { placed base 16 0x060F with cr0 := { base.cr0 with ts := true } }
    StepsTo s (after (step s)) ∧ (after (step s)).cr0.ts ≠ s.cr0.ts :=
  ⟨.inl rfl, by decide⟩

/-- CLI ending in the System Flag trap: the state that the trap carries counts. -/
theorem witness_InterruptFlagChangesOnlyWithPrivilege :
    let s := { placed ise 8 0xFA with cflg := { ifl := false, ii := true }, flags := { ise.flags with ifl := true } }
    StepsTo s (after (step s)) ∧ (after (step s)).flags.ifl ≠ s.flags.ifl :=
  ⟨.inr (.inr rfl), by decide⟩

theorem witness_FaultsReportTheInstruction :
    (∃ e code ip address, step (placed base 16 0xF2F7) = .fault (.exception e code ip address)) ∧
    (∃ e code ip address, step (placed (shortDs base) 16 0x0301) = .fault (.exception e (some code) ip address)) ∧
    (∃ k ip, step (placed ise 16 0x060F) = .fault (.intercept k ip)) ∧
    (∃ f ip address, step (placed iseNat 8 0x98) = .fault (.itanium f ip address)) :=
  ⟨⟨_, _, _, _, rfl⟩, ⟨_, _, _, _, rfl⟩, ⟨_, _, rfl⟩, ⟨_, _, _, rfl⟩⟩

/-- Page 2, where `[EBX]` is, is not present for reads. -/
def absent (s : State) : State :=
  { s with
    cfg := { s.cfg with pages := [{ page := 2, fetch := .frame 2, read := .fault .pageNotPresent, write := .frame 2 }] } }

theorem witness_EnvironmentsSeparateEvents :
    (∃ k ip, step (placed ise 16 0x060F) = .fault (.intercept k ip)) ∧
    (∃ f ip a, step (placed (absent ise) 16 0x0303) = .fault (.itanium f ip a)) ∧
    (∃ t, step { placed ise 40 0xE8 with psr := { dfl := false, dfh := false, tb := true, i := false } } =
      .fault (.debugTrap t)) ∧
    (∃ t, step { placed ise 8 0xFA with
        cflg := { ifl := false, ii := true }, flags := { ise.flags with ifl := true } } = .fault (.systemFlagTrap t)) ∧
    (∃ code ip a, step (placed (absent base) 16 0x0303) = .fault (.exception .pf code ip a)) ∧
    (∃ code ip a, step { rising3 with tr := { rising3.tr with limit := 0 } } = .fault (.exception .ts code ip a)) ∧
    step (placed far 56 0x0028000000009A) = .refused .taskSwitch :=
  ⟨⟨_, _, rfl⟩, ⟨_, _, _, rfl⟩, ⟨_, rfl⟩, ⟨_, rfl⟩, ⟨_, _, _, rfl⟩, ⟨_, _, _, rfl⟩, rfl⟩

/-! ### Memory access -/

/-- Page 2 is in physical page 5, which the memory map covers, and page 7, where the stack is, has no entry or is not
present for writes. -/
def mapped (s : State) : State :=
  { s with
    cfg := { s.cfg with
      pages := [{ page := 2, fetch := .frame 2, read := .frame 5, write := .fault .dirtyBit }]
      memory := { s.cfg.memory with populated := some [5, 7] } } }

def noStack (s : State) : State :=
  { s with
    cfg := { s.cfg with
      pages := [{ page := 7, fetch := .frame 7, read := .frame 7, write := .fault (.data .pageNotPresent) }] } }

/-- What the first push at an address raises in the state of `noStack`. -/
def pushFault (s : State) (la : DWord) : Fault := .exception .pf none s.pc (some { la := la, kind := .write })

/-- What the oracle holds for the state of `mapped`: a listed page for each kind of access, and one that it does not list. -/
theorem mapped_answers (s : State) :
    OracleAnswers (mapped s) .fetch 2 (.frame 2) ∧ OracleAnswers (mapped s) .read 2 (.frame 5) ∧
    OracleAnswers (mapped s) .write 2 (.fault (.dataMem .dirtyBit)) ∧ OracleAnswers (mapped s) .read 7 (.frame 7) :=
  have first : FirstEntry (mapped s)
      { page := 2, fetch := .frame 2, read := .frame 5, write := .fault .dirtyBit } := ⟨[], [], rfl, by simp⟩
  ⟨.fetch _ first, .read _ first, .write _ first, .unlisted _ _ (by simp [mapped])⟩

/-- The limit test of the model is the one of the statements. -/
theorem within_iff {g : Segment} {off : DWord} {n : Nat} (h : 0 < n) : Within g off n ↔ g.inLimit off n = true := by
  unfold Within Segment.inLimit
  have last := fun P : Nat → Prop => fun all : ∀ k < n, P k => And.intro (all 0 h) (all (n - 1) (by omega))
  cases g.expandDown <;> cases g.executable <;> cases g.big <;> simp <;>
    constructor <;> intro all <;> first | (have := last _ all; omega) | (intro k hk; omega)

/-- The limit test of the pushes to a new stack. -/
theorem within_all {g : Segment} {slots : List DWord} {n : Nat} (h : 0 < n)
    (all : (slots.all fun off => g.inLimit off n) = true) : ∀ x ∈ slots, Within g x n :=
  fun x hx => (within_iff h).mpr (List.all_eq_true.mp all x hx)

/-- A byte of a listed page and one of a page of no entry; two items that end at the limit of their segment, and one just
above the limit of an expand-down one. -/
theorem witness_SegmentAccessPermitted :
    (pageOf (mapped base) 0x2FFF = 2 ∧ OracleAnswers (mapped base) .read 2 (.frame 5) ∧ Covered (mapped base) 5 ∧
      (mapped base).translate .read 0x2FFF = .ok 0x5FFF) ∧
    (pageOf (mapped base) 0x7000 = 7 ∧ OracleAnswers (mapped base) .read 7 (.frame 7) ∧ Covered (mapped base) 7) ∧
    0 < [2, 2].sum ∧
    { base with segs := { base.segs with ds := { base.segs.ds with limit := 0x2003 } } }.segAccess .ds .s32 0x2000 [2, 2]
      .read = .ok [0x2000, 0x2001, 0x2002, 0x2003] ∧
    { base with segs := { base.segs with ss := { base.segs.ss with limit := 0x1FFF, expandDown := true } } }.segAccess
      .ss .s32 0x2000 [4] .write = .ok [0x2000, 0x2001, 0x2002, 0x2003] :=
  have covered : ∀ p ∈ [5, 7], Covered (mapped base) p := fun p h l e => by cases e; exact h
  ⟨⟨rfl, (mapped_answers base).2.1, covered 5 (by decide), rfl⟩,
    ⟨rfl, (mapped_answers base).2.2.2, covered 7 (by decide)⟩, by decide, rfl, rfl⟩

/-- A fault of the oracle and a page that the memory map does not cover; then, in the order of the checks, a null segment,
an item past the limit, a segment that may not be written, an item of two that is not aligned, and a byte that has no
translation after one that has. -/
theorem witness_SegmentAccessFaultOrder :
    TranslationFaults (mapped base) .write (pageOf (mapped base) 0x2000) (.dataMem .dirtyBit) ∧
    TranslationFaults (mapped base) .fetch (pageOf (mapped base) 0x2000) (.instrMem .pageNotPresent) ∧
    (let s := { base with segs := { base.segs with ds := { base.segs.ds with selector := 3 } } }
     ¬NotNull s .ds) ∧
    (let s := { base with segs := { base.segs with ds := { base.segs.ds with limit := 0x2002 } } }
     NotNull s .ds ∧ ¬Within (s.seg .ds) 0x2000 4) ∧
    (let s := { base with segs := { base.segs with ds := { base.segs.ds with writable := false } } }
     NotNull s .ds ∧ Within (s.seg .ds) 0x2000 4 ∧ ¬Permitted s (s.seg .ds) .write) ∧
    (let s := { base with cpl := 3, cr0 := { base.cr0 with am := true }, flags := { base.flags with ac := true } }
     NotNull s .ds ∧ Within (s.seg .ds) 0x2002 [4, 2].sum ∧ Permitted s (s.seg .ds) .write ∧
     ¬Aligned s (s.seg .ds) .s32 0x2002 ([4, 2].take 0).sum 4 ∧ Aligned s (s.seg .ds) .s32 0x2004 ([4, 2].take 0).sum 4 ∧
     ¬Aligned s (s.seg .ds) .s32 0x2005 ([2, 2].take 1).sum 2) ∧
    (let s := mapped base
     NotNull s .ds ∧ Within (s.seg .ds) 0x1FFF 2 ∧ Permitted s (s.seg .ds) .read ∧
     Aligned s (s.seg .ds) .s32 0x1FFF 0 2 ∧
     s.translate .read (byteAddress (s.seg .ds) .s32 0x2FFF 0) = .ok 0x5FFF ∧
     s.translate .read (byteAddress (s.seg .ds) .s32 0x2FFF 1) =
       .error (.fault (.exception .pf none s.pc (some { la := 0x3000, kind := .read })))) := by
  refine ⟨.oracle _ _ _ (mapped_answers base).2.2.1,
    .uncovered _ _ 2 (mapped_answers base).1 (fun h => absurd (h _ rfl) (by decide)), ?_⟩
  unfold NotNull Within Permitted Aligned
  exact ⟨by decide, by decide, by decide, ⟨by decide, by decide, by decide, by decide, by decide, by decide⟩,
    by decide, by decide, by decide, by decide, rfl, rfl⟩

theorem witness_StoredValuesAreReadBack :
    32 = 8 * [0x2000, 0x2001, 0xFFFFFFFF, 0].length ∧ [0x2000, 0x2001, 0xFFFFFFFF, 0].Nodup ∧
    [0x2000, 0x2001, 0xFFFFFFFF, 0][3]? = some 0 ∧ 4 ≤ [0x2000, 0x2001, 0xFFFFFFFF, 0].length := by
  decide

/-! ### Integer arithmetic and logic -/

/-- A locked ADD to memory, and the byte form on AH. -/
theorem witness_AddStoresTheSum :
    AluForm addForms true (.mem atBx : Place 32) (.place (.r32 .eax)) (.addRm32R32 true (.mem atBx) .eax) ∧
    Readable base ((.mem atBx : Place 32).regs ++ (Operand.place (.r32 .eax)).regs) ∧
    base.checkLockPlace .add true (.mem atBx : Place 32) = .ok () ∧
    base.openPlace (.mem atBx : Place 32) .write = .ok [0x2000, 0x2001, 0x2002, 0x2003] ∧
    base.openOperand (.place (.r32 .eax)) = .ok [] ∧
    AluForm addForms false (.r8 .ah) (.place (.r8 .al)) (.addR8Rm8 .ah (.reg .al)) ∧
    Readable base ((.r8 .ah : Place 8).regs ++ (Operand.place (.r8 .al)).regs) ∧
    base.checkLockPlace .add false (.r8 .ah : Place 8) = .ok () ∧ base.openPlace (.r8 .ah : Place 8) .write = .ok [] ∧
    base.openOperand (.place (.r8 .al)) = .ok [] :=
  ⟨.rm32R32 true (.mem atBx) .eax, readable_ia32 rfl, rfl, rfl, rfl, .r8Rm8 .ah (.reg .al), readable_ia32 rfl, rfl, rfl,
    rfl⟩

theorem witness_AdcStoresTheSumWithCarry :
    AluForm adcForms false (.r16 .eax) (.imm 0xFFFF) (.adcAxIw 0xFFFF) ∧
    Readable base ((.r16 .eax : Place 16).regs ++ (Operand.imm (0xFFFF : Word)).regs) ∧
    base.checkLockPlace .adc false (.r16 .eax : Place 16) = .ok () ∧
    base.openPlace (.r16 .eax : Place 16) .write = .ok [] ∧ base.openOperand (.imm (0xFFFF : Word)) = .ok [] :=
  ⟨.axIw 0xFFFF, readable_ia32 rfl, rfl, rfl, rfl⟩

theorem witness_AndStoresTheConjunction :
    AluForm andForms false (.r32 .eax) (.place (.mem atBx)) (.andR32Rm32 .eax (.mem atBx)) ∧
    Readable base ((.r32 .eax : Place 32).regs ++ (Operand.place (.mem atBx : Place 32)).regs) ∧
    base.checkLockPlace .and false (.r32 .eax : Place 32) = .ok () ∧
    base.openPlace (.r32 .eax : Place 32) .write = .ok [] ∧
    base.openOperand (.place (.mem atBx : Place 32)) = .ok [0x2000, 0x2001, 0x2002, 0x2003] :=
  ⟨.r32Rm32 .eax (.mem atBx), readable_ia32 rfl, rfl, rfl, rfl⟩

/-- A memory operand that may not be written. -/
theorem witness_CmpSetsFlagsOnly :
    let s := { base with segs := { base.segs with ds := { base.segs.ds with writable := false } } }
    AluForm cmpForms false (RM8.mem atBx).place (.imm 3) (.cmpRm8Ib (.mem atBx) 3) ∧
    Readable s ((RM8.mem atBx).place.regs ++ (Operand.imm (3 : Byte)).regs) ∧
    s.openPlace (RM8.mem atBx).place .read = .ok [0x2000] ∧ s.openOperand (.imm (3 : Byte)) = .ok [] :=
  ⟨.rm8Ib false (.mem atBx) 3, readable_ia32 rfl, rfl, rfl⟩

theorem witness_DecSubtractsOneAndKeepsCarry :
    DecForm true (RM8.mem atBx).place (.decRm8 true (.mem atBx)) ∧ Readable base (RM8.mem atBx).place.regs ∧
    base.checkLockPlace .dec true (RM8.mem atBx).place = .ok () ∧
    base.openPlace (RM8.mem atBx).place .write = .ok [0x2000] ∧
    DecForm false (.r16 .esp) (.decR16 .esp) ∧ Readable base (.r16 .esp : Place 16).regs ∧
    base.checkLockPlace .dec false (.r16 .esp : Place 16) = .ok () ∧
    base.openPlace (.r16 .esp : Place 16) .write = .ok [] :=
  ⟨.rm8 true (.mem atBx), readable_ia32 rfl, rfl, rfl, .r16 .esp, readable_ia32 rfl, rfl, rfl⟩

/-- DIV of EDX:EAX by EBX: the highest quotient that fits, the lowest one that does not, and a divisor of 0. -/
theorem witness_DivDividesOrRaisesDivideError :
    (∀ s : State, s.itaniumSE = false →
      (∃ d f, DivForm s [.edx, .eax] d (Place.r32 .ebx) f (.divRm32 (.reg .ebx))) ∧
      Readable s ([.edx, .eax] ++ (Place.r32 .ebx).regs) ∧ s.openPlace (.r32 .ebx) .read = .ok []) ∧
    (let s := start [(.edx, 1), (.eax, 0xFFFFFFFF), (.ebx, 2)] []
     s.itaniumSE = false ∧ (s.peek (.r32 .ebx) []).toNat ≠ 0 ∧
     ((s.reg32 .edx).toNat * 2 ^ 32 + (s.reg32 .eax).toNat) / (s.peek (.r32 .ebx) []).toNat < 2 ^ 32) ∧
    (let s := start [(.edx, 2), (.eax, 0), (.ebx, 2)] []
     s.itaniumSE = false ∧
     2 ^ 32 ≤ ((s.reg32 .edx).toNat * 2 ^ 32 + (s.reg32 .eax).toNat) / (s.peek (.r32 .ebx) []).toNat) ∧
    (let s := start [(.eax, 1)] []
     s.itaniumSE = false ∧ (s.peek (.r32 .ebx) []).toNat = 0) :=
  ⟨fun s h => ⟨⟨_, _, .rm32 (.reg .ebx)⟩, readable_ia32 h, rfl⟩, by decide⟩

/-- The stop that `#GP(0)` is at the first byte of the test program. -/
def gp : Fault := .exception .gp (some 0) 0x1000 none

/-- `LOCK ADD [EBX],EAX` intercepted. -/
def lockAdd : State :=
  { ise with
    dcrLc := true
    cfg := { ise.cfg with lockInterceptAll := true, lockRequired := [{ op := .add, la := 0x2000, bytes := 4 }] } }

theorem witness_ReadModifyWriteFaultOrder :
    (addForms, LockOp.add) ∈ [(adcForms, LockOp.adc), (addForms, .add), (andForms, .and)] ∧
    AluForm addForms true (RM.mem atBx).place32 (.place (.r32 .eax)) (.addRm32R32 true (.mem atBx) .eax) ∧
    (iseNat.itaniumSE = true ∧
      ∃ r ∈ (RM.mem atBx).place32.regs ++ (Operand.place (.r32 .eax)).regs, iseNat.nat.get r = true) ∧
    (Readable lockAdd ((RM.mem atBx).place32.regs ++ (Operand.place (.r32 .eax)).regs) ∧
      lockAdd.checkLockPlace .add true (RM.mem atBx).place32 = .error (.fault (.intercept (.lock .add) 0x1000))) ∧
    (Readable (shortDs base) ((RM.mem atBx).place32.regs ++ (Operand.place (.r32 .eax)).regs) ∧
      (shortDs base).checkLockPlace .add true (RM.mem atBx).place32 = .ok () ∧
      (shortDs base).openPlace (RM.mem atBx).place32 .write = .error (.fault gp)) ∧
    AluForm addForms false (.r32 .eax) (.place (RM.mem atBx).place32) (.addR32Rm32 .eax (.mem atBx)) ∧
    (shortDs base).openPlace (.r32 .eax) .write = .ok [] ∧
    (shortDs base).openOperand (.place (RM.mem atBx).place32) = .error (.fault gp) := by
  refine ⟨.tail _ (.head _), .rm32R32 true (.mem atBx) .eax, ⟨rfl, .eax, by decide, rfl⟩, ⟨?_, rfl⟩,
    ⟨readable_ia32 rfl, rfl, rfl⟩, .r32Rm32 .eax (.mem atBx), rfl, rfl⟩
  intro _ r hr
  cases r <;> rfl

/-- DCR.lc is set, and a lock is required of one form of each instruction at `[EBX]`. -/
def locking (wide : Choice) : State :=
  { ise with
    dcrLc := true
    cfg := { ise.cfg with
      btWideAccess := wide
      lockInterceptAll := true
      lockRequired := [{ op := .cmpxchg, la := 0x2000, bytes := 1 }, { op := .cmpxchg8b, la := 0x2000, bytes := 8 },
        { op := .add, la := 0x2000, bytes := 4 }, { op := .dec, la := 0x2000, bytes := 2 },
        { op := .bts, la := 0x2003, bytes := 1 }, { op := .bts, la := 0x2000, bytes := 4 }] } }

/-- Forms of every kind, and both widths of a bit access; all of them meet the intercept's conditions, and in the IA-32
System Environment none does. -/
theorem witness_LockInterceptComesBeforeTheAccess :
    let la := fun s : State => (s.seg .ds).base + atBx.ea.addrSize.wrap (s.offset atBx.ea)
    let site := fun (s : State) (o : DWord) => (s.seg .ds).base + bitAccess s atBx o
    let bytes := fun s : State => if s.bitWide then 32 / 8 else 1
    (∀ w, (∀ rs, Readable (locking w) rs) ∧ (locking w).itaniumSE = true ∧ (locking w).dcrLc = true ∧
      (locking w).cfg.lockInterceptAll = true) ∧
    base.itaniumSE = false ∧
    (∀ s, LockForm s .cmpxchg [.eax, .ebx, .ecx] (la s) 1 (.cmpxchgRm8R8 true (.mem atBx) .cl) ∧
      LockForm s .cmpxchg8b [.eax, .ebx, .ecx, .edx, .ebx] (la s) 8 (.cmpxchg8b true atBx) ∧
      LockForm s .add [.ebx, .ecx] (la s) 4 (.addRm32R32 true (.mem atBx) .ecx) ∧
      LockForm s .dec [.ebx] (la s) 2 (.decRm16 true (.mem atBx)) ∧
      LockForm s .bts [.ebx] (site s 31) (bytes s) (.btsRm32Ib true (.mem atBx) 31)) ∧
    la (locking .never) = 0x2000 ∧ site (locking .never) 31 = 0x2003 ∧ site (locking .always) 31 = 0x2000 ∧
    bytes (locking .never) = 1 ∧ bytes (locking .always) = 4 ∧
    ∀ site ∈ [(.cmpxchg, 1), (.cmpxchg8b, 8), (.add, 4), (.dec, 2), (LockOp.bts, 4)],
      { op := site.1, la := 0x2000, bytes := site.2 } ∈ (locking .always).cfg.lockRequired := by
  refine ⟨fun _ => ⟨fun _ _ q _ => by cases q <;> rfl, rfl, rfl, rfl⟩, rfl, fun s => ?_, by decide, by decide, by decide,
    rfl, rfl, by decide⟩
  exact ⟨.cmpxchg atBx _ _ _ (.rm8 true (.mem atBx) .cl), .cmpxchg8b atBx,
    .alu addForms .add (by simp) atBx _ _ (.rm32R32 true (.mem atBx) .ecx), .dec atBx _ (.rm16 true (.mem atBx)),
    .bit .bts .bts (by simp) atBx _ _ (.bts32i true (.mem atBx) 31)⟩

/-! ### Decimal adjustment -/

/-- The highest digit that is not adjusted and the lowest that is, for both variants. -/
theorem witness_AsciiAdjustAfterAddAndSubtract :
    (iseNat.itaniumSE = true ∧ iseNat.nat.eax = true) ∧
    (∀ s ∈ [withEax base 9, withEax base 0x0A, later (withEax base 0x0A)], s.itaniumSE = false) ∧
    (let s := withEax base 9
     ¬(9 < ((s.reg32 .eax).extractLsb' 0 8).toNat % 16 ∨ s.status.af = true)) ∧
    (let s := withEax base 0x0A
     9 < ((s.reg32 .eax).extractLsb' 0 8).toNat % 16 ∧ s.cfg.bcdVariant = .source) ∧
    (let s := later (withEax base 0x0A)
     9 < ((s.reg32 .eax).extractLsb' 0 8).toNat % 16 ∧ s.cfg.bcdVariant = .laterEdition) := by
  decide

theorem witness_AsciiAdjustForDivideAndMultiply :
    (iseNat.itaniumSE = true ∧ iseNat.nat.eax = true) ∧ Readable base [.eax] ∧ (1 : Byte) ≠ 0 ∧ (0xFF : Byte) ≠ 0 :=
  ⟨⟨rfl, rfl⟩, readable_ia32 rfl, by decide, by decide⟩

/-- The values on both sides of the two tests of DAA, and DAS under both variants. -/
theorem witness_DecimalAdjustAfterAddAndSubtract :
    (iseNat.itaniumSE = true ∧ iseNat.nat.eax = true) ∧ Readable base [.eax] ∧ Readable (later base) [.eax] ∧
    base.cfg.bcdVariant = .source ∧ (later base).cfg.bcdVariant = .laterEdition ∧
    ¬0x90 < ((0x9F : Byte) &&& 0xF0).toNat ∧ 0x90 < ((0xA0 : Byte) &&& 0xF0).toNat :=
  ⟨⟨rfl, rfl⟩, readable_ia32 rfl, readable_ia32 rfl, rfl, rfl, by decide, by decide⟩

/-! ### Protection, bounds, bits -/

theorem witness_ArplRaisesTheRequestedLevel :
    (real base).protectedMode = false ∧ (v86 base).protectedMode = false ∧ base.protectedMode = true ∧
    Readable base ((RM.mem atBx).place16.regs ++ [.ecx]) ∧
    base.openPlace (RM.mem atBx).place16 .write = .ok [0x2000, 0x2001] ∧
    (let d := base.peek (.r16 .edx : Place 16) []
     d.toNat % 4 < ((base.reg32 .ecx).extractLsb' 0 16).toNat % 4) ∧
    (let d := base.peek (RM.mem atBx).place16 [0x2000, 0x2001]
     ¬d.toNat % 4 < ((base.reg32 .ecx).extractLsb' 0 16).toNat % 4) :=
  ⟨rfl, rfl, rfl, readable_ia32 rfl, rfl, by decide, by decide⟩

/-- Bounds 3 and 10: the lowest and the highest index that pass, and the ones beside them. -/
theorem witness_BoundChecksTheIndex :
    BoundForm (.r32 .eax) atBx (.boundR32 .eax atBx) ∧
    Readable base ((.r32 .eax : Place 32).regs ++ atBx.ea.regs) ∧
    base.memAccess atBx [32 / 8, 32 / 8] .read =
      .ok [0x2000, 0x2001, 0x2002, 0x2003, 0x2004, 0x2005, 0x2006, 0x2007] ∧
    (let lower : DWord := base.load 32 [0x2000, 0x2001, 0x2002, 0x2003]
     let upper : DWord := base.load 32 [0x2004, 0x2005, 0x2006, 0x2007]
     lower.toInt = 3 ∧ upper.toInt + ((32 / 8 : Nat) : Int) = 14 ∧ base.cfg.boundSlack = .operandBytes ∧
     ((withEax base 3).peek (.r32 .eax) []).toInt = 3 ∧ ((withEax base 2).peek (.r32 .eax) []).toInt = 2 ∧
     ((withEax base 14).peek (.r32 .eax) []).toInt = 14 ∧ ((withEax base 15).peek (.r32 .eax) []).toInt = 15) :=
  ⟨.r32 .eax atBx, readable_ia32 rfl, rfl, by decide⟩

/-- A source with one set bit, and a source of 0. -/
theorem witness_BitScanFindsTheBit :
    ScanForm true (.r32 .eax) (RM.mem atBx).place32 (.bsfR32Rm32 .eax (.mem atBx)) ∧
    Readable base (RM.mem atBx).place32.regs ∧
    base.openPlace (RM.mem atBx).place32 .read = .ok [0x2000, 0x2001, 0x2002, 0x2003] ∧
    base.peek (RM.mem atBx).place32 [0x2000, 0x2001, 0x2002, 0x2003] ≠ 0 ∧
    ScanForm false (.r16 .eax) (RM.reg .edx).place16 (.bsrR16Rm16 .eax (.reg .edx)) ∧
    Readable base (RM.reg .edx).place16.regs ∧ base.openPlace (RM.reg .edx).place16 .read = .ok [] ∧
    base.peek (RM.reg .edx).place16 [] = 0 :=
  ⟨.bsf32 .eax (.mem atBx), readable_ia32 rfl, rfl, by decide, .bsr16 .eax (.reg .edx), readable_ia32 rfl, rfl, rfl⟩

theorem witness_BswapReversesTheBytes :
    iseNat.itaniumSE = true ∧ iseNat.nat.get .eax = true ∧ Readable base [.esp] ∧ 3 < 4 :=
  ⟨rfl, rfl, readable_ia32 rfl, by decide⟩

theorem witness_BitTestOfARegister :
    BitForm .btc false (RM.reg .eax).place16 (.place (.r16 .ecx)) (.btcRm16R16 false (.reg .eax) .ecx) ∧
    (∀ m, (RM.reg .eax).place16 ≠ .mem m) ∧
    Readable base ((RM.reg .eax).place16.regs ++ (Operand.place (.r16 .ecx)).regs) :=
  ⟨.btc16 false (.reg .eax) .ecx, fun _ h => (by cases h), readable_ia32 rfl⟩

/-- A bit in front of the operand, an immediate one, and the wide access. -/
theorem witness_BitTestOfMemory :
    (let s := { withEax base 0xFFFFFFF5 with cfg := { base.cfg with btWideAccess := .always } }
     BitForm .bts true (.mem atBx : Place 32) (.place (.r32 .eax)) (.btsRm32R32 true (.mem atBx) .eax) ∧
     Readable s (atBx.ea.regs ++ (Operand.place (.r32 .eax)).regs) ∧
     s.bitWide = true ∧ (s.operand (.place (.r32 .eax)) []).toInt = -11 ∧
     s.checkBitLock .bts true atBx 0x1FFC 4 = .ok () ∧
     atBx.ea.addrSize.wrap (s.offset atBx.ea + BitVec.ofInt 32 ((32 / 8 : Nat) * ((-11) / 32))) = 0x1FFC ∧
     s.segAccess .ds .s32 0x1FFC [32 / 8] BitOp.bts.kind = .ok [0x1FFC, 0x1FFD, 0x1FFE, 0x1FFF]) ∧
    BitForm .bt false (.mem atBx : Place 16) (.imm (BitVec.ofNat 16 ((0x15 : Byte).toNat % 16)))
      (.btRm16Ib (.mem atBx) 0x15) ∧
    base.bitWide = false ∧ base.checkBitLock .bt false atBx 0x2000 1 = .ok () ∧
    base.segAccess .ds .s32 0x2000 [8 / 8] BitOp.bt.kind = .ok [0x2000] :=
  ⟨⟨.bts32 true (.mem atBx) .eax, readable_ia32 rfl, rfl, rfl, rfl, by decide, rfl⟩, .bt16i (.mem atBx) 0x15, rfl, rfl,
    rfl⟩

theorem witness_BothBitAccessesNameOneBit : 16 = 16 ∨ 16 = 32 :=
  .inl rfl

/-! ### CALL -/

/-- A target at the limit of CS, and a stack with room for the push and no more. -/
theorem witness_NearCallPushesTheReturnOffset :
    let s := { base with
      regs := { base.regs with esp := 4 }
      segs := { base.segs with cs := { base.segs.cs with limit := 0x2000 }, ss := { base.segs.ss with limit := 3 } } }
    NearCall s .s32 0x2000 (.esp :: (RM.reg .ebx).place32.regs) (.callRm32 (.reg .ebx)) ∧
    Readable s (.esp :: (RM.reg .ebx).place32.regs) ∧ (0x2000 : DWord).toNat ≤ s.segs.cs.limit.toNat ∧
    s.segAccess .ss s.stackSize (below s OpSize.s32.bytes (stackTop s)) [OpSize.s32.bytes] .write = .ok [0, 1, 2, 3] ∧
    NoBranchTrap s :=
  ⟨.rm32 (.reg .ebx) [] rfl, readable_ia32 rfl, by decide, rfl, fun h => by cases h⟩

/-- A target one above the limit of CS, one at it with no room on the stack, and a stack that is not present. -/
theorem witness_NearCallChecksTargetThenStack :
    let s := { base with
      regs := { base.regs with esp := 1 }
      segs := { base.segs with cs := { base.segs.cs with limit := 0x1001 }, ss := { base.segs.ss with limit := 3 } } }
    NearCall s .s16 ((s.nextPc + (2 : Word).signExtend 32) &&& 0xFFFF) [.esp] (.callRel16 2) ∧
    NearCall s .s16 ((s.nextPc + (1 : Word).signExtend 32) &&& 0xFFFF) [.esp] (.callRel16 1) ∧
    Readable s [.esp] ∧
    s.segs.cs.limit.toNat < ((s.nextPc + (2 : Word).signExtend 32) &&& 0xFFFF).toNat ∧
    ((s.nextPc + (1 : Word).signExtend 32) &&& 0xFFFF).toNat ≤ s.segs.cs.limit.toNat ∧
    ¬Within s.segs.ss (below s OpSize.s16.bytes (stackTop s)) OpSize.s16.bytes ∧
    (0x2000 : DWord).toNat ≤ (noStack base).segs.cs.limit.toNat ∧
    (noStack base).segAccess .ss (noStack base).stackSize (below (noStack base) OpSize.s16.bytes (stackTop (noStack base)))
      [OpSize.s16.bytes] .write = .error (.fault (pushFault base 0x7FFE)) :=
  ⟨.rel16 2, .rel16 1, readable_ia32 rfl, by decide, by decide, by unfold Within; decide, by decide, rfl⟩

/-- A direct call in real-address mode, and one through memory in virtual-8086 mode; room for one push and not for two, an
offset of 10000H, and a stack that is not present for the first push or for the second. -/
theorem witness_FarCallOutsideProtectedMode :
    FarCall (real base) .s16 0x2000 ((0xFFFF : Word).setWidth 32) [.esp] (.callPtr16 0x2000 0xFFFF) ∧
    (real base).protectedMode = false ∧ Readable (real base) [.esp] ∧
    FarRoom .s16 [0x7FFE, 0x7FFF] [0x7FFC, 0x7FFD] (real base) ∧
    ((0xFFFF : Word).setWidth 32 : DWord).toNat ≤ 0xFFFF ∧ NoBranchTrap (real base) ∧
    FarCall (v86 base) .s32 (Memory.read base.mem 0x2005 ++ Memory.read base.mem 0x2004)
      (Memory.read base.mem 0x2003 ++ Memory.read base.mem 0x2002 ++ Memory.read base.mem 0x2001 ++
        Memory.read base.mem 0x2000) (.esp :: atBx.ea.regs) (.callM16x32 atBx) ∧
    (v86 base).protectedMode = false ∧ FarRoom .s32 [0x7FFC, 0x7FFD, 0x7FFE, 0x7FFF] [0x7FF8, 0x7FF9, 0x7FFA, 0x7FFB]
      (v86 base) ∧
    (let s := real { base with
       regs := { base.regs with esp := 2 }, segs := { base.segs with ss := { base.segs.ss with limit := 3 } } }
     Within s.segs.ss (below s 2 (stackTop s)) 2 ∧ ¬FarWithin .s16 s) ∧
    (FarCall (real base) .s32 0x2000 0x10000 [.esp] (.callPtr32 0x2000 0x10000) ∧ FarWithin .s32 (real base) ∧
      0xFFFF < (0x10000 : DWord).toNat) ∧
    FarPushFaults .s16 (pushFault base 0x7FFE) (noStack (v86 base)) ∧
    FarPushFaults .s16 (pushFault base 0x7FFE)
      (noStack (v86 { base with regs := { base.regs with esp := 0x8002 } })) :=
  ⟨.ptr16 0x2000 0xFFFF, rfl, readable_ia32 rfl, ⟨rfl, rfl⟩, by decide, fun h => (by cases h),
    .m16x32 atBx 0x2000 0x2001 0x2002 0x2003 0x2004 0x2005 rfl, rfl, ⟨rfl, rfl⟩,
    by unfold FarWithin Within; decide, ⟨.ptr32 0x2000 0x10000, by unfold FarWithin Within; decide, by decide⟩,
    .inl rfl, .inr ⟨⟨_, rfl⟩, rfl⟩⟩

/-- The descriptors of `tables`, by their kind. -/
def code0 : QWord := 0x00CF9A000000FFFF

def conforming0 : QWord := 0x00CF9E000000FFFF

def gate0 : QWord := 0x0000EC0000085000

def tss0 : QWord := 0x0000E90040000067

def taskGate0 : QWord := 0x0000E50000280000

def notPresent0 : QWord := 0x00CF1A000000FFFF

def gate1 : QWord := 0x0000EC0100085000

def interruptGate0 : QWord := 0x00008E0000000000

/-- A code segment of 5000H bytes. -/
def shortCode0 : QWord := 0x00409A0000004FFF

/-- The state with another descriptor in its table at 3000H. -/
def entry (s : State) (sel : Word) (d : QWord) : State :=
  let put := fun m k => Memory.write m (0x3000 + selectorIndex sel * 8 + k) (d.extractLsb' (8 * k) 8)
  { s with mem := (List.range 8).foldl put s.mem }

/-- The state with another stack selector for level 0 in its TSS at 4000H. -/
def newStackIs (sel : Word) (s : State) : State :=
  { s with mem := Memory.write (Memory.write s.mem 0x4008 (sel.extractLsb' 0 8)) 0x4009 (sel.extractLsb' 8 8) }

/-- The far CALL `0023H:00000000H` reaches the descriptor of 20H, where that is such a gate. -/
theorem reachesGate_of {s : State} {types : List Nat} {gate : QWord} (read : s.readDescriptor 0x23 = .ok gate)
    (rest : s.protectedMode = true ∧ s.itaniumSE = false ∧ s.inTable 0x23 = true ∧ gate.getLsbD 44 = false ∧
      (gate.extractLsb' 40 4).toNat ∈ types ∧ s.cpl.toNat ≤ (gate.extractLsb' 45 2).toNat ∧
      ((0x23 : Word).extractLsb' 0 2).toNat ≤ (gate.extractLsb' 45 2).toNat ∧ gate.getLsbD 47 = true) :
    ReachesGate s types gate (.callPtr32 0x23 0) :=
  ⟨.s32, 0x23, 0, [.esp], .ptr32 0x23 0, rest.1, rest.2.1, by decide, rest.2.2.1, read, rest.2.2.2⟩

/-- The return address of a far call from `far` or `farUser` goes to these bytes. -/
def farCs : List Nat := [0x7FFC, 0x7FFD, 0x7FFE, 0x7FFF]

def farIp : List Nat := [0x7FF8, 0x7FF9, 0x7FFA, 0x7FFB]

/-- A nonconforming code segment at the caller's level, and a conforming one of a more privileged level; no room for the
second push, an offset one beyond the limit, and a stack that is not present. -/
theorem witness_FarCallToACodeSegment :
    (FarCall far .s32 0x08 0xFFFFFFFF [.esp] (.callPtr32 0x08 0xFFFFFFFF) ∧ far.protectedMode = true ∧
      Readable far [.esp] ∧ (0x08 : Word).extractLsb' 2 14 ≠ 0 ∧ far.inTable 0x08 = true ∧
      far.readDescriptor 0x08 = .ok code0 ∧ code0.getLsbD 44 = true ∧ code0.getLsbD 43 = true ∧
      (if code0.getLsbD 42 = true then (code0.extractLsb' 45 2).toNat ≤ far.cpl.toNat
        else ((0x08 : Word).extractLsb' 0 2).toNat ≤ far.cpl.toNat ∧ code0.extractLsb' 45 2 = far.cpl) ∧
      code0.getLsbD 47 = true ∧ FarRoom .s32 farCs farIp far ∧ (0xFFFFFFFF : DWord).toNat ≤ limitOf code0 ∧
      NoBranchTrap far) ∧
    (farUser.readDescriptor 0x1B = .ok conforming0 ∧ conforming0.getLsbD 44 = true ∧ conforming0.getLsbD 43 = true ∧
      conforming0.getLsbD 42 = true ∧ (conforming0.extractLsb' 45 2).toNat ≤ farUser.cpl.toNat) ∧
    (let s := { far with segs := { far.segs with ss := { far.segs.ss with limit := 0x7FFB, expandDown := true } } }
     Within s.segs.ss (below s 4 (stackTop s)) 4 ∧ ¬FarWithin .s32 s ∧ s.readDescriptor 0x08 = .ok code0) ∧
    (FarWithin .s32 far ∧ limitOf shortCode0 < (0x5000 : DWord).toNat ∧ shortCode0.getLsbD 47 = true ∧
      (entry far 0x08 shortCode0).readDescriptor 0x08 = .ok shortCode0) ∧
    FarPushFaults .s32 (pushFault far 0x7FFC) (noStack far) :=
  ⟨⟨.ptr32 0x08 0xFFFFFFFF, rfl, readable_ia32 rfl, by decide, rfl, rfl, by decide, by decide, by decide, by decide,
    ⟨rfl, rfl⟩, by decide, fun h => by cases h⟩, ⟨rfl, by decide, by decide, by decide, by decide⟩,
    ⟨by unfold Within; decide, by unfold FarWithin Within; decide, rfl⟩,
    ⟨by unfold FarWithin Within; decide, by decide, by decide, rfl⟩, .inl rfl⟩

theorem witness_CallGateWithoutPrivilegeChange :
    FarCall far .s32 0x20 0 [.esp] (.callPtr32 0x20 0) ∧ far.protectedMode = true ∧ far.itaniumSE = false ∧
    (0x20 : Word).extractLsb' 2 14 ≠ 0 ∧ far.inTable 0x20 = true ∧ far.readDescriptor 0x20 = .ok gate0 ∧
    gate0.getLsbD 44 = false ∧ gate0.extractLsb' 40 4 = 12 ∧ gate0.getLsbD 47 = true ∧
    far.cpl.toNat ≤ (gate0.extractLsb' 45 2).toNat ∧
    ((0x20 : Word).extractLsb' 0 2).toNat ≤ (gate0.extractLsb' 45 2).toNat ∧
    gate0.extractLsb' 16 16 = (0x08 : Word) ∧ (0x08 : Word).extractLsb' 2 14 ≠ 0 ∧ far.inTable 0x08 = true ∧
    far.readDescriptor 0x08 = .ok code0 ∧ code0.getLsbD 44 = true ∧ code0.getLsbD 43 = true ∧
    code0.getLsbD 47 = true ∧ code0.extractLsb' 45 2 = far.cpl ∧ FarRoom .s32 farCs farIp far ∧
    (gate0.extractLsb' 48 16 ++ gate0.extractLsb' 0 16 : DWord).toNat ≤ limitOf code0 :=
  ⟨.ptr32 0x20 0, rfl, rfl, by decide, rfl, rfl, by decide, by decide, by decide, by decide, by decide, by decide,
    by decide, rfl, rfl, by decide, by decide, by decide, by decide, ⟨rfl, rfl⟩, by decide⟩

/-- The addresses of five pushes to the new stack of `farUser`. -/
def newStackAddrs : List (List Nat) :=
  [[0x8FFC, 0x8FFD, 0x8FFE, 0x8FFF], [0x8FF8, 0x8FF9, 0x8FFA, 0x8FFB], [0x8FF4, 0x8FF5, 0x8FF6, 0x8FF7],
    [0x8FF0, 0x8FF1, 0x8FF2, 0x8FF3], [0x8FEC, 0x8FED, 0x8FEE, 0x8FEF]]

/-- One parameter, and the stack of the TSS. -/
theorem witness_CallGateToMorePrivilege :
    let s := entry farUser 0x20 gate1
    let ss := Segment.ofDescriptor 0x10 0x00CF92000000FFFF
    let slots := newSlots ss 0x9000 OpSize.s32.bytes (gateParameters gate1 + 4)
    ReachesGate s [12] gate1 (.callPtr32 0x23 0) ∧ gate1.extractLsb' 16 16 = (0x08 : Word) ∧
    (0x08 : Word).extractLsb' 2 14 ≠ 0 ∧ s.inTable 0x08 = true ∧ s.readDescriptor 0x08 = .ok code0 ∧
    code0.getLsbD 44 = true ∧ code0.getLsbD 43 = true ∧ code0.getLsbD 42 = false ∧ code0.getLsbD 47 = true ∧
    (code0.extractLsb' 45 2).toNat < s.cpl.toNat ∧
    s.readTssStack (code0.extractLsb' 45 2) = .ok { sel := 0x10, esp := 0x9000 } ∧
    s.openNewStack (code0.extractLsb' 45 2) 0x10 = .ok ss ∧ (∀ x ∈ slots, Within ss x OpSize.s32.bytes) ∧
    (gateTargetOffset .s32 gate1).toNat ≤ limitOf code0 ∧ gateParameters gate1 = 1 ∧
    s.readParameters .s32 (gateParameters gate1) = .ok [0x12345678] ∧
    NewStackOpens s ss OpSize.s32.bytes slots newStackAddrs := by
  refine ⟨reachesGate_of rfl (by decide), by decide, by decide, rfl, rfl, by decide, by decide, by decide, by decide,
    by decide, rfl, rfl, within_all (by decide) rfl, by decide, rfl, rfl, rfl, ?_⟩
  intro k off h
  have few : k < 5 := (List.getElem?_eq_some_iff.mp h).1
  interval_cases k <;> cases h <;> refine ⟨fun _ _ _ => rfl, _, rfl, rfl, fun j hj => ?_⟩ <;>
    match j, (hj : j < 4) with
    | 0, _ => exact ⟨_, rfl, rfl⟩
    | 1, _ => exact ⟨_, rfl, rfl⟩
    | 2, _ => exact ⟨_, rfl, rfl⟩
    | 3, _ => exact ⟨_, rfl, rfl⟩

/-- A call gate, a task gate and an available TSS. -/
theorem witness_GatesAreIntercepted :
    FarCall farIse .s32 0x20 0 [.esp] (.callPtr32 0x20 0) ∧ farIse.protectedMode = true ∧ farIse.itaniumSE = true ∧
    Readable farIse [.esp] ∧ (0x20 : Word).extractLsb' 2 14 ≠ 0 ∧ farIse.inTable 0x20 = true ∧
    farIse.readDescriptor 0x20 = .ok gate0 ∧ farIse.readDescriptor 0x28 = .ok tss0 ∧
    farIse.readDescriptor 0x30 = .ok taskGate0 ∧
    (∀ d ∈ [gate0, tss0, taskGate0], d.getLsbD 44 = false ∧ farIse.cpl.toNat ≤ (d.extractLsb' 45 2).toNat ∧
      ((0x20 : Word).extractLsb' 0 2).toNat ≤ (d.extractLsb' 45 2).toNat ∧ d.getLsbD 47 = true) ∧
    (gate0.extractLsb' 40 4).toNat ∈ [4, 5, 12] ∧ (taskGate0.extractLsb' 40 4).toNat ∈ [4, 5, 12] ∧
    (tss0.extractLsb' 40 4).toNat ∈ [1, 9] ∧ (0x28 : Word).getLsbD 2 = false :=
  ⟨.ptr32 0x20 0, rfl, rfl, fun _ r h => (by cases r <;> rfl), by decide, rfl, rfl, rfl, rfl,
    by simp [gate0, tss0, taskGate0]; decide, by decide, by decide, by decide, by decide⟩

/-- A descriptor that ends at the limit of its table, in either table, one whose second byte has no translation; a null
selector with every RPL bit set, the first one beyond the table, a data segment, an interrupt gate, a denied
conforming and a denied nonconforming code segment, one that is not present, and gates and task segments: less
privileged than RPL asks, busy, in the LDT, and not present. -/
theorem witness_FarCallChecksTheSelector :
    (64 = 8 * 8 ∧ far.systemRead 64 0x3008 8 = .ok code0 ∧
      (mapped base).translate .read (0x2FFF + BitVec.ofNat 32 0) = .ok 0x5FFF ∧
      (mapped base).translate .read (0x2FFF + BitVec.ofNat 32 1) =
        .error (.fault (.exception .pf none base.pc (some { la := 0x3000, kind := .read })))) ∧
    (let s := { mapped far with gdtr := { far.gdtr with base := 0x2FF7 } }
     s.inTable 0x08 = true ∧
     s.readDescriptor 0x08 = .error (.fault (.exception .pf none far.pc (some { la := 0x3000, kind := .read })))) ∧
    (∀ sel ∈ [(3 : Word), 0x50, 0x10, 0x48, 0x08, 0x0B, 0x18, 0x38], FarCall far .s32 sel 0 [.esp] (.callPtr32 sel 0)) ∧
    far.protectedMode = true ∧ Readable far [.esp] ∧ (3 : Word).extractLsb' 2 14 = 0 ∧
    (0x50 : Word).extractLsb' 2 14 ≠ 0 ∧ far.inTable 0x50 = false ∧ far.inTable 0x48 = true ∧
    (far.readDescriptor 0x10 = .ok 0x00CF92000000FFFF ∧ (0x00CF92000000FFFF : QWord).getLsbD 44 = true ∧
      (0x00CF92000000FFFF : QWord).getLsbD 43 = false) ∧
    (far.readDescriptor 0x48 = .ok interruptGate0 ∧ interruptGate0.getLsbD 44 = false ∧
      (interruptGate0.extractLsb' 40 4).toNat ∉ [1, 3, 4, 5, 9, 11, 12]) ∧
    (far.readDescriptor 0x0B = .ok code0 ∧ code0.getLsbD 42 = false ∧
      far.cpl.toNat < ((0x0B : Word).extractLsb' 0 2).toNat) ∧
    (let c : QWord := 0x00CFFE000000FFFF
     c.getLsbD 42 = true ∧ far.cpl.toNat < (c.extractLsb' 45 2).toNat) ∧
    (far.readDescriptor 0x38 = .ok notPresent0 ∧ notPresent0.getLsbD 44 = true ∧ notPresent0.getLsbD 43 = true ∧
      notPresent0.getLsbD 47 = false ∧ notPresent0.getLsbD 42 = false ∧
      ((0x38 : Word).extractLsb' 0 2).toNat ≤ far.cpl.toNat ∧ notPresent0.extractLsb' 45 2 = far.cpl) ∧
    (let d : QWord := 0x0000CC0000085000
     (entry far 0x20 d).readDescriptor 0x23 = .ok d ∧ d.getLsbD 44 = false ∧ (d.extractLsb' 40 4).toNat = 12 ∧
       (d.extractLsb' 45 2).toNat < ((0x23 : Word).extractLsb' 0 2).toNat) ∧
    (let d : QWord := 0x0000EB0040000067
     (entry far 0x28 d).readDescriptor 0x28 = .ok d ∧ d.getLsbD 44 = false ∧ (d.extractLsb' 40 4).toNat ∈ [3, 11]) ∧
    (let s := { far with ldtr := { far.ldtr with present := true, base := 0x3000, limit := 0x4F } }
     s.inTable 0x2C = true ∧ s.readDescriptor 0x2C = .ok tss0 ∧ (tss0.extractLsb' 40 4).toNat ∈ [1, 9] ∧
       (0x2C : Word).getLsbD 2 = true) ∧
    (let d : QWord := 0x00006C0000085000
     (entry far 0x20 d).readDescriptor 0x23 = .ok d ∧ d.getLsbD 44 = false ∧
       (d.extractLsb' 40 4).toNat ∈ [4, 5, 12] ∧ far.cpl.toNat ≤ (d.extractLsb' 45 2).toNat ∧
       ((0x23 : Word).extractLsb' 0 2).toNat ≤ (d.extractLsb' 45 2).toNat ∧ d.getLsbD 47 = false) :=
  ⟨⟨rfl, rfl, rfl, rfl⟩, ⟨rfl, rfl⟩,
    fun sel _ => .ptr32 sel 0, rfl, readable_ia32 rfl, by decide, by decide, rfl, rfl, ⟨rfl, by decide, by decide⟩,
    ⟨rfl, by decide, by decide⟩, ⟨rfl, by decide, by decide⟩, by decide, ⟨rfl, by decide, by decide, by decide,
    by decide, by decide, by decide⟩, ⟨rfl, by decide, by decide, by decide⟩, ⟨rfl, by decide, by decide⟩,
    ⟨rfl, rfl, by decide, by decide⟩, ⟨rfl, by decide, by decide, by decide, by decide, by decide⟩⟩

/-- A task segment, and a task gate whose selector names the LDT, lies beyond the GDT, names a data segment, a busy TSS,
one that is not present, and an available one. -/
theorem witness_TaskSwitchIsRefused :
    (FarCall farUser .s32 0x28 0 [.esp] (.callPtr32 0x28 0) ∧ farUser.protectedMode = true ∧
      farUser.itaniumSE = false ∧ (0x28 : Word).extractLsb' 2 14 ≠ 0 ∧ (0x28 : Word).getLsbD 2 = false ∧
      farUser.inTable 0x28 = true ∧ farUser.readDescriptor 0x28 = .ok tss0 ∧ tss0.getLsbD 44 = false ∧
      (tss0.extractLsb' 40 4).toNat ∈ [1, 9] ∧ farUser.cpl.toNat ≤ (tss0.extractLsb' 45 2).toNat ∧
      ((0x28 : Word).extractLsb' 0 2).toNat ≤ (tss0.extractLsb' 45 2).toNat ∧ tss0.getLsbD 47 = true) ∧
    (∀ gate ∈ [taskGate0, 0x0000E500002C0000, 0x0000E50000500000, 0x0000E50000100000],
      ReachesGate (entry farUser 0x20 gate) [5] gate (.callPtr32 0x23 0)) ∧
    (0x2C : Word).getLsbD 2 = true ∧ farUser.inTable 0x50 = false ∧
    (farUser.inTable 0x10 = true ∧ farUser.readDescriptor 0x10 = .ok 0x00CF92000000FFFF ∧
      (0x00CF92000000FFFF : QWord).getLsbD 44 = true) ∧
    (∀ t ∈ [(0x0000EB0040000067 : QWord), 0x0000690040000067, tss0],
      (entry farUser 0x28 t).inTable 0x28 = true ∧ (entry farUser 0x28 t).readDescriptor 0x28 = .ok t ∧
      t.getLsbD 44 = false) ∧
    ((0x0000EB0040000067 : QWord).extractLsb' 40 4).toNat ∉ [1, 9] ∧
    (((0x0000690040000067 : QWord).extractLsb' 40 4).toNat ∈ [1, 9] ∧ (0x0000690040000067 : QWord).getLsbD 47 = false) := by
  refine ⟨⟨.ptr32 0x28 0, rfl, rfl, by decide, by decide, rfl, rfl, by decide, by decide, by decide, by decide,
    by decide⟩, ?_, by decide, rfl, ⟨rfl, rfl, by decide⟩, ?_, by decide, by decide⟩
  · intro gate h
    simp only [List.mem_cons, List.not_mem_nil, or_false] at h
    rcases h with rfl | rfl | rfl | rfl <;>
      exact reachesGate_of rfl (by decide)
  · intro t h
    simp only [List.mem_cons, List.not_mem_nil, or_false] at h
    rcases h with rfl | rfl | rfl <;> exact ⟨rfl, rfl, by decide⟩

/-- Gates to a null selector, to one beyond the table, to a data segment and to a segment that is not present; at one
level a stack that ends one byte too soon, and a segment that ends before the offset; to more privilege a TSS that ends
one byte too soon, in both formats, a null stack selector, one beyond the table, a code segment, a data segment that is
not present or too short, and one that passes while the code segment is too short; and what the TSS then gives. -/
theorem witness_CallGateChecksTargetAndStack :
    (∀ gate ∈ [gate0, 0x0000EC0000035000, 0x0000EC0000505000, 0x0000EC0000105000, 0x0000EC0000385000],
      ReachesGate (entry far 0x20 gate) [12] gate (.callPtr32 0x23 0)) ∧
    ((3 : Word).extractLsb' 2 14 = 0 ∧ far.inTable 0x50 = false ∧
      far.readDescriptor 0x10 = .ok 0x00CF92000000FFFF ∧ (0x00CF92000000FFFF : QWord).getLsbD 43 = false ∧
      far.readDescriptor 0x38 = .ok notPresent0 ∧ notPresent0.getLsbD 47 = false) ∧
    (far.readDescriptor 0x08 = .ok code0 ∧ code0.extractLsb' 45 2 = far.cpl ∧
      (let s := { far with segs := { far.segs with ss := { far.segs.ss with limit := 0x7FFE } } }
       ¬FarWithin .s32 s) ∧
      FarWithin .s32 far ∧ FarPushFaults .s32 (pushFault far 0x7FFC) (noStack far)) ∧
    ((entry far 0x08 shortCode0).readDescriptor 0x08 = .ok shortCode0 ∧
      limitOf shortCode0 < (gateTargetOffset .s32 gate0).toNat) ∧
    (ReachesGate farUser [12] gate0 (.callPtr32 0x23 0) ∧ farUser.readDescriptor 0x08 = .ok code0 ∧
      code0.getLsbD 42 = false ∧ (code0.extractLsb' 45 2).toNat < farUser.cpl.toNat) ∧
    (10 < 0 * 8 + 11 ∧ { farUser.tr with limit := 10 }.is32 = true ∧ { farUser.tr with is32 := false, limit := 5 }.limit.toNat < 0 * 4 + 6) ∧
    (∀ sel ∈ [(3 : Word), 0x50, 0x08, 0x10],
      (newStackIs sel farUser).readTssStack 0 = .ok { sel := sel, esp := 0x9000 }) ∧
    ((0x10 : Word).extractLsb' 0 2 = (0 : BitVec 2) ∧ code0.getLsbD 43 = true ∧
      (∀ d ∈ [(0x00CF12000000FFFF : QWord), 0x0040920000008FFE, 0x00CF92000000FFFF],
        (entry farUser 0x10 d).inTable 0x10 = true ∧ (entry farUser 0x10 d).readDescriptor 0x10 = .ok d ∧
        d.extractLsb' 45 2 = (0 : BitVec 2) ∧ d.getLsbD 44 = true ∧ d.getLsbD 43 = false ∧ d.getLsbD 41 = true) ∧
      (0x00CF12000000FFFF : QWord).getLsbD 47 = false ∧
      (∀ d ∈ [(0x0040920000008FFE : QWord), 0x00CF92000000FFFF], Describes d (Segment.ofDescriptor 0x10 d)) ∧
      (¬∀ x ∈ newSlots (Segment.ofDescriptor 0x10 0x0040920000008FFE) 0x9000 4 (gateParameters gate0 + 4),
        Within (Segment.ofDescriptor 0x10 0x0040920000008FFE) x 4) ∧
      (∀ x ∈ newSlots (Segment.ofDescriptor 0x10 0x00CF92000000FFFF) 0x9000 4 (gateParameters gate0 + 4),
        Within (Segment.ofDescriptor 0x10 0x00CF92000000FFFF) x 4) ∧
      (let s := { farUser with regs := { farUser.regs with esp := 0x2000 }, cfg := (absent farUser).cfg }
       s.readParameters .s32 (gateParameters gate1) =
         .error (.fault (.exception .pf none s.pc (some { la := 0x2000, kind := .read }))))) ∧
    (far.tr.is32 = true ∧ 0 * 8 + 11 ≤ { far.tr with limit := 11 }.limit.toNat ∧
      far.systemRead 32 (far.tr.base + 4) 4 = .ok (0x9000 : DWord) ∧
      far.systemRead 16 (far.tr.base + 8) 2 = .ok (0x10 : Word)) ∧
    (0 * 4 + 6 ≤ { far.tr with limit := 6, is32 := false }.limit.toNat ∧
      far.systemRead 16 (far.tr.base + 2) 2 = .ok (0 : Word) ∧
      far.systemRead 16 (far.tr.base + 4) 2 = .ok (0x9000 : Word)) := by
  refine ⟨?_, ⟨by decide, rfl, rfl, by decide, rfl, by decide⟩, ⟨rfl, by decide, by unfold FarWithin Within; decide, by unfold FarWithin Within; decide, .inl rfl⟩, ⟨rfl, by decide⟩,
    ⟨reachesGate_of rfl (by decide), rfl, by decide, by decide⟩, by decide, ?_,
    ⟨by decide, by decide, ?_, by decide, ?_, fun h => absurd ((within_iff (by decide)).mp (h 0x8FFC (List.mem_cons_self ..))) (by decide),
      within_all (by decide) rfl, rfl⟩, ⟨rfl, by decide, rfl, rfl⟩,
    ⟨by decide, rfl, rfl⟩⟩
  · intro gate h
    simp only [List.mem_cons, List.not_mem_nil, or_false] at h
    rcases h with rfl | rfl | rfl | rfl | rfl <;> exact reachesGate_of rfl (by decide)
  · intro sel h
    simp only [List.mem_cons, List.not_mem_nil, or_false] at h
    rcases h with rfl | rfl | rfl | rfl <;> rfl
  · intro d h
    simp only [List.mem_cons, List.not_mem_nil, or_false] at h
    rcases h with rfl | rfl | rfl <;> exact ⟨rfl, rfl, by decide, by decide, by decide, by decide⟩
  · intro d h
    simp only [List.mem_cons, List.not_mem_nil, or_false] at h
    rcases h with rfl | rfl <;>
      exact ⟨rfl, rfl, rfl, rfl, rfl, rfl, fun h => absurd h (by decide), fun _ => ⟨rfl, rfl, rfl, rfl⟩⟩

/-- The Itanium System Environment with PSR.tb set. -/
def traced (s : State) : State :=
  { s with cfg := { s.cfg with env := .itaniumSE }, psr := { dfl := false, dfh := false, tb := true, i := false } }

theorem witness_TakenBranchTrapCarriesTheCall :
    base.itaniumSE = false ∧ ise.psr.tb = false ∧ (traced base).itaniumSE = true ∧ (traced base).psr.tb = true ∧
    Readable (traced base) [.esp] ∧
    (∃ t, exec (.callRel32 0) (traced base) = .fault (.debugTrap t)) ∧
    (NearCall (traced base) .s32 ((traced base).nextPc + 0) [.esp] (.callRel32 0) ∧
      ((traced base).nextPc + 0).toNat ≤ (traced base).segs.cs.limit.toNat ∧
      (traced base).segAccess .ss (traced base).stackSize
        (below (traced base) OpSize.s32.bytes (stackTop (traced base))) [OpSize.s32.bytes] .write = .ok farCs) ∧
    (let s := traced (real base)
     FarCall s .s16 0x2000 ((0 : Word).setWidth 32) [.esp] (.callPtr16 0x2000 0) ∧ s.protectedMode = false ∧
     Readable s [.esp] ∧ FarRoom .s16 [0x7FFE, 0x7FFF] [0x7FFC, 0x7FFD] s ∧ s.itaniumSE = true ∧ s.psr.tb = true) ∧
    (let s := traced far
     FarCall s .s32 0x08 0 [.esp] (.callPtr32 0x08 0) ∧ s.protectedMode = true ∧ Readable s [.esp] ∧
     s.inTable 0x08 = true ∧ s.readDescriptor 0x08 = .ok code0 ∧ FarRoom .s32 farCs farIp s ∧
     (0 : DWord).toNat ≤ limitOf code0 ∧ s.itaniumSE = true ∧ s.psr.tb = true) :=
  ⟨rfl, rfl, rfl, rfl, fun _ r _ => (by cases r <;> rfl), ⟨_, rfl⟩, ⟨.rel32 0, by decide, rfl⟩,
    ⟨.ptr16 0x2000 0, rfl, fun _ r _ => (by cases r <;> rfl), ⟨rfl, rfl⟩, rfl, rfl⟩,
    ⟨.ptr32 0x08 0, rfl, fun _ r _ => (by cases r <;> rfl), rfl, rfl, ⟨rfl, rfl⟩, by decide, rfl, rfl⟩⟩

/-! ### Converts, flags and system instructions -/

theorem witness_ConvertsCopyTheSign :
    iseNat.itaniumSE = true ∧ iseNat.nat.eax = true ∧ Readable base [.eax] :=
  ⟨rfl, rfl, readable_ia32 rfl⟩

/-- Each case of CLI, with IOPL on both sides of CPL. -/
theorem witness_CliClearsTheInterruptFlag :
    (real base).cr0.pe = false ∧
    (let s := { base with cpl := 2, flags := { base.flags with iopl := 2 } }
     s.protectedMode = true ∧ s.cpl.toNat ≤ s.flags.iopl.toNat) ∧
    (let s := v86 { base with flags := { base.flags with iopl := 3 } }
     s.v86Mode = true ∧ s.flags.iopl = 3) ∧
    (let s := { base with cpl := 3, cr4 := { base.cr4 with pvi := true }, flags := { base.flags with iopl := 2 } }
     s.protectedMode = true ∧ s.flags.iopl.toNat < s.cpl.toNat ∧ s.cpl = 3 ∧ s.cr4.pvi = true) ∧
    (let s := v86 { base with cr4 := { base.cr4 with vme := true }, flags := { base.flags with iopl := 2 } }
     s.v86Mode = true ∧ s.flags.iopl ≠ 3 ∧ s.cr4.vme = true) ∧
    (let s := { base with cpl := 2, flags := { base.flags with iopl := 1 } }
     ¬(s.cr0.pe = false ∨ (s.protectedMode = true ∧ s.cpl.toNat ≤ s.flags.iopl.toNat) ∨
       (s.v86Mode = true ∧ s.flags.iopl = 3)) ∧
     ¬((s.protectedMode = true ∧ s.flags.iopl.toNat < s.cpl.toNat ∧ s.cpl = 3 ∧ s.cr4.pvi = true) ∨
       (s.v86Mode = true ∧ s.flags.iopl ≠ 3 ∧ s.cr4.vme = true))) ∧
    (let s := { ise with cflg := { ifl := false, ii := true }, flags := { ise.flags with ifl := true } }
     (s.protectedMode = true ∧ s.cpl.toNat ≤ s.flags.iopl.toNat) ∧ s.itaniumSE = true ∧ s.cflg.ii = true ∧
     s.flags.ifl = true) := by
  decide

theorem witness_CltsClearsTaskSwitched :
    ise.itaniumSE = true ∧
    (let s := { base with cpl := 1 }
     s.itaniumSE = false ∧ s.realMode = false ∧ s.cpl ≠ 0) ∧
    (let s := real { base with cpl := 3 }
     s.itaniumSE = false ∧ s.realMode = true) ∧
    base.itaniumSE = false ∧ base.cpl = 0 := by
  decide

/-! ### Conditional move, string compare, compare and exchange, CPUID -/

/-- CMOVB and CMOVAE with a memory source, for each choice of the load under a false condition. -/
theorem witness_ConditionalMoveMovesOnCondition :
    CmovForm (fun f => f.cf) (.r32 .eax) (RM.mem atBx).place32 (.cmovB32 .eax (.mem atBx)) ∧
    CmovForm (fun f => !f.cf) (.r16 .eax) (RM.mem atBx).place16 (.cmovAe16 .eax (.mem atBx)) ∧
    (∀ c ∈ [Choice.never, .always, .perExecution],
      let s := { base with cfg := { base.cfg with cmovFalseLoads := c } }
      Readable s ((Place.r32 .eax).regs ++ (RM.mem atBx).place32.regs) ∧ s.status.cf = false ∧ (!s.status.cf) = true ∧
      s.openPlace (RM.mem atBx).place16 .read = .ok [0x2000, 0x2001] ∧
      s.memAccess atBx [32 / 8] .read = .ok [0x2000, 0x2001, 0x2002, 0x2003]) ∧
    (let s := shortDs { base with cfg := { base.cfg with cmovFalseLoads := .always } }
     s.memAccess atBx [32 / 8] .read = .error (.fault gp)) ∧
    (∀ m, (RM.reg .ecx).place32 ≠ .mem m) :=
  ⟨.r32 (fun f => f.cf, .cmovB16, .cmovB32) (by simp [cmovTable]) .eax (.mem atBx),
    .r16 (fun f => !f.cf, .cmovAe16, .cmovAe32) (by simp [cmovTable]) .eax (.mem atBx),
    fun c _ => (by cases c <;> exact ⟨readable_ia32 rfl, rfl, rfl, rfl, rfl⟩), rfl, fun _ h => by cases h⟩

theorem witness_CompareStringsStepsTheIndexes :
    CmpsForm 16 .s16 .cs (.cmpsw .s16 .cs) ∧ Readable base [.esi, .edi] ∧
    base.segAccess .cs .s16 (OpSize.s16.wrap (base.reg32 .esi)) [16 / 8] .read = .ok [0x2000, 0x2001] ∧
    base.segAccess .es .s16 (OpSize.s16.wrap (base.reg32 .edi)) [16 / 8] .read = .ok [0x2004, 0x2005] :=
  ⟨.cmpsw .s16 .cs, readable_ia32 rfl, rfl, rfl⟩

/-- A destination that equals the accumulator, and one that does not. -/
theorem witness_CompareAndExchange :
    CmpxchgForm true (.r8 .al) (RM8.mem atBx).place (.r8 .cl) (.cmpxchgRm8R8 true (.mem atBx) .cl) ∧
    (∀ v ∈ [(3 : DWord), 4],
      let s := withEax base v
      Readable s ((Place.r8 .al).regs ++ (RM8.mem atBx).place.regs ++ (Place.r8 .cl).regs) ∧
      s.checkLockPlace .cmpxchg true (RM8.mem atBx).place = .ok () ∧
      s.openPlace (RM8.mem atBx).place .write = .ok [0x2000]) ∧
    (withEax base 3).peek (.r8 .al) [] = (withEax base 3).peek (RM8.mem atBx).place [0x2000] ∧
    (withEax base 4).peek (.r8 .al) [] ≠ (withEax base 4).peek (RM8.mem atBx).place [0x2000] := by
  refine ⟨.rm8 true (.mem atBx) .cl, ?_, by decide, by decide⟩
  intro v h
  simp only [List.mem_cons, List.not_mem_nil, or_false] at h
  rcases h with rfl | rfl <;> exact ⟨readable_ia32 rfl, rfl, rfl⟩

theorem witness_CompareAndExchangeEightBytes :
    (∀ s ∈ [base, start [(.edx, 0x0A), (.eax, 3), (.ebx, 0x2000)] base.mem],
      Readable s ([.eax, .ebx, .ecx, .edx] ++ atBx.ea.regs) ∧
      s.checkLock .cmpxchg8b true atBx (s.offset atBx.ea) 8 = .ok () ∧
      s.memAccess atBx [8] .write = .ok [0x2000, 0x2001, 0x2002, 0x2003, 0x2004, 0x2005, 0x2006, 0x2007]) ∧
    (let s := start [(.edx, 0x0A), (.eax, 3), (.ebx, 0x2000)] base.mem
     s.reg32 .edx ++ s.reg32 .eax =
       s.load 64 [0x2000, 0x2001, 0x2002, 0x2003, 0x2004, 0x2005, 0x2006, 0x2007]) ∧
    base.reg32 .edx ++ base.reg32 .eax ≠
      base.load 64 [0x2000, 0x2001, 0x2002, 0x2003, 0x2004, 0x2005, 0x2006, 0x2007] := by
  refine ⟨?_, by decide, by decide⟩
  intro s h
  simp only [List.mem_cons, List.not_mem_nil, or_false] at h
  rcases h with rfl | rfl <;> exact ⟨readable_ia32 rfl, rfl, rfl⟩

/-- The highest basic leaf in range and the first one beyond it, the highest extended one and the first beyond it, and
listed leaves. -/
theorem witness_CpuidIdentifiesAndSerializes :
    (iseNat.itaniumSE = true ∧ iseNat.nat.eax = true) ∧ Readable base [.eax] ∧
    (let c := resetConfig.cpuid
     (2 : DWord).toNat ≤ c.maxBasic.toNat ∧ ¬(3 : DWord).toNat ≤ c.maxBasic.toNat ∧
     (0x80000004 : DWord).toNat ≤ c.maxExtended.toNat ∧ ¬(0x80000005 : DWord).toNat ≤ c.maxExtended.toNat) ∧
    (∀ leaf ∈ [(1 : DWord), 2, 0x80000004],
      ({ resetConfig.cpuid with leaves := [(leaf, { eax := 1, ebx := 2, ecx := 3, edx := 4 })] } :
        CpuidConfig).leaves.lookup leaf = some { eax := 1, ebx := 2, ecx := 3, edx := 4 }) := by
  refine ⟨⟨rfl, rfl⟩, readable_ia32 rfl, by decide, ?_⟩
  intro leaf h
  simp only [List.mem_cons, List.not_mem_nil, or_false] at h
  rcases h with rfl | rfl | rfl <;> rfl

end Sys2Proof.Tests
end

/-! ## Settling the statements about the whole machine's state

A step goes on to a state by completing, or by a trap that carries the state after the instruction. `Leads` says what
holds of each such state, `Effect` says once what an instruction does outside the general registers, the status flags
and memory, and the statements about every step are read off it. -/

namespace Sys2Proof.Machine

/-! ### What a meaning leaves alone: `SameElse` -/

theorem SameElse.refl (s : State) : SameElse s s := rfl

theorem SameElse.symm {s t : State} (h : SameElse s t) : SameElse t s := by
  unfold SameElse at *
  rw [h]

theorem SameElse.trans {s t u : State} (hst : SameElse s t) (htu : SameElse t u) : SameElse s u := by
  unfold SameElse at *
  rw [htu, hst]

/-- An update that `SameElse` allows does not matter to it. -/
theorem SameElse.congr_right {s t u : State} (h : SameElse t u) : SameElse s u ↔ SameElse s t :=
  ⟨fun hu => hu.trans h.symm, fun ht => ht.trans h⟩

section
variable (s u : State)

@[simp] theorem sameElse_self : SameElse s s := SameElse.refl s

@[simp] theorem sameElse_setStatus (f : StatusFlags) : SameElse s (u.setStatus f) ↔ SameElse s u :=
  SameElse.congr_right rfl

@[simp] theorem sameElse_drew (n : Nat) : SameElse s (u.drew n) ↔ SameElse s u := SameElse.congr_right rfl

@[simp] theorem sameElse_advance : SameElse s u.advance ↔ SameElse s u := SameElse.congr_right rfl

@[simp] theorem sameElse_setPc (v : DWord) : SameElse s (u.setPc v) ↔ SameElse s u := SameElse.congr_right rfl

@[simp] theorem sameElse_serialize : SameElse s u.serialize ↔ SameElse s u := SameElse.congr_right rfl

@[simp] theorem sameElse_set8 (r : Reg8) (v : Byte) : SameElse s (u.set8 r v) ↔ SameElse s u :=
  SameElse.congr_right rfl

@[simp] theorem sameElse_set16 (r : Reg) (v : Word) : SameElse s (u.set16 r v) ↔ SameElse s u :=
  SameElse.congr_right rfl

@[simp] theorem sameElse_set32 (r : Reg) (v : DWord) : SameElse s (u.set32 r v) ↔ SameElse s u :=
  SameElse.congr_right rfl

@[simp] theorem sameElse_setCpuid (r : CpuidRow) : SameElse s (u.setCpuid r) ↔ SameElse s u := by
  simp [State.setCpuid]

@[simp] theorem sameElse_store {w : Nat} (l : List Nat) (v : BitVec w) : SameElse s (u.store l v) ↔ SameElse s u :=
  SameElse.congr_right (by rw [State.store_eq]; rfl)

@[simp] theorem sameElse_storeSlots (ps : List (List Nat)) (vs : List DWord) :
    SameElse s (u.storeSlots ps vs) ↔ SameElse s u :=
  SameElse.congr_right (by rw [State.storeSlots_eq]; rfl)

@[simp] theorem sameElse_pushed (slots : List DWord) (addrs : List (List Nat)) (vals : List DWord) :
    SameElse s (u.pushed slots addrs vals) ↔ SameElse s u :=
  SameElse.congr_right (by rw [State.pushed_eq]; rfl)

@[simp] theorem sameElse_poke {w : Nat} (p : Place w) (addrs : List Nat) (v : BitVec w) :
    SameElse s (u.poke p addrs v) ↔ SameElse s u :=
  SameElse.congr_right (by rw [State.poke_eq]; rfl)

@[simp] theorem sameElse_pokeBit (op : BitOp) {w : Nat} (p : Place w) (addrs : List Nat) (v : BitVec w) :
    SameElse s (u.pokeBit op p addrs v) ↔ SameElse s u := by
  cases op <;> simp [State.pokeBit]

@[simp] theorem sameElse_stepIndex (a : OpSize) (r : Reg) (n : Nat) :
    SameElse s (u.stepIndex a r n) ↔ SameElse s u := by
  unfold State.stepIndex
  split <;> simp

end

/-- Loading CS keeps two states alike. -/
theorem SameElse.setCs {s t : State} (h : SameElse s t) (g : Segment) : SameElse (s.setCs g) (t.setCs g) := by
  unfold SameElse at *
  rw [h]
  rfl

/-- So does the loading of a stack switch. -/
theorem SameElse.switched {s t : State} (h : SameElse s t) (ss cs : Segment) (esp target : DWord) (level : BitVec 2) :
    SameElse (s.switched ss cs esp target level) (t.switched ss cs esp target level) := by
  unfold SameElse at *
  rw [h]
  rfl

/-! ### The states an outcome goes on to -/

/-- The state after an instruction, completed or ended by a trap (60_exceptions.md R352). -/
def Reaches (o : Host.Outcome State Fault Refusal) (t : State) : Prop :=
  o = .next t ∨ o = .fault (.debugTrap t) ∨ o = .fault (.systemFlagTrap t)

/-- Whether a stop is one of the two traps, which carry a state; any other stop carries none. -/
def Stop.isTrap : Stop → Bool
  | .fault (.debugTrap _) => true
  | .fault (.systemFlagTrap _) => true
  | .fault (.exception _ _ _ _) => false
  | .fault (.intercept _ _) => false
  | .fault (.itanium _ _ _) => false
  | .fault .runEnded => false
  | .refused _ => false

/-- Every state that an outcome goes on to has a property. -/
def Leads (o : Host.Outcome State Fault Refusal) (P : State → Prop) : Prop := ∀ t, Reaches o t → P t

/-- A computation that no trap ends. -/
def TrapFree {α : Type} (x : Result α) : Prop := ∀ e, x = .error e → e.isTrap = false

theorem leads_next {t : State} {P : State → Prop} (h : P t) : Leads (.next t) P := by
  rintro u (hu | hu | hu) <;> cases hu
  exact h

theorem leads_error {e : Stop} {P : State → Prop} (h : e.isTrap = false) : Leads (toOutcome (.error e)) P := by
  intro t ht
  cases e with
  | refused r => simp [Reaches] at ht
  | fault f =>
    rcases ht with ht | ht | ht <;> cases ht <;> cases h

/-- After a part that no trap ends, only what the rest goes on to counts. -/
theorem Leads.bind {α : Type} {x : Result α} {f : α → Result State} {P : State → Prop} (hx : TrapFree x)
    (hf : ∀ a, x = .ok a → Leads (toOutcome (f a)) P) : Leads (toOutcome (x >>= f)) P := by
  cases x with
  | ok a => exact hf a rfl
  | error e => exact leads_error (hx e rfl)

theorem Leads.imp {o : Host.Outcome State Fault Refusal} {P Q : State → Prop} (h : Leads o P) (hPQ : ∀ t, P t → Q t) :
    Leads o Q :=
  fun t ht => hPQ t (h t ht)

theorem TrapFree.ok_of_reaches {r : Result State} {t : State} (h : TrapFree r) (ht : Reaches (toOutcome r) t) :
    r = .ok t := by
  cases r with
  | ok u => rcases ht with ht | ht | ht <;> cases ht; rfl
  | error e => exact absurd ht (leads_error (P := fun _ => False) (h e rfl) t)

/-! ### Computations that no trap ends -/

@[simp] theorem trapFree_ok {α : Type} (a : α) : TrapFree (.ok a : Result α) := by
  intro e h
  cases h

@[simp] theorem trapFree_error {α : Type} (e : Stop) : TrapFree (.error e : Result α) ↔ e.isTrap = false := by
  simp [TrapFree]

theorem TrapFree.bind {α β : Type} {x : Result α} {f : α → Result β} (hx : TrapFree x)
    (hf : ∀ a, TrapFree (f a)) : TrapFree (x >>= f) := by
  intro e h
  rcases bind_eq_error.mp h with h | ⟨a, -, h⟩
  · exact hx e h
  · exact hf a e h

theorem trapFree_stopIf (c : Bool) {e : Stop} (h : e.isTrap = false) : TrapFree (stopIf c e) := by
  cases c <;> simp [h]

section
variable (s : State)

@[simp] theorem isTrap_raise (e : Exception) (a : Option AccessPoint) : (s.raise e a).isTrap = false := rfl

@[simp] theorem isTrap_raiseCode (e : Exception) (c : Word) (a : Option AccessPoint) :
    (s.raiseCode e c a).isTrap = false := rfl

@[simp] theorem isTrap_raiseSel (e : Exception) (sel : Word) : (s.raiseSel e sel).isTrap = false := rfl

@[simp] theorem isTrap_gp0 : s.gp0.isTrap = false := rfl

@[simp] theorem isTrap_ss0 : s.ss0.isTrap = false := rfl

@[simp] theorem isTrap_raiseItanium (f : ItaniumFault) (a : Option AccessPoint) :
    (s.raiseItanium f a).isTrap = false := rfl

@[simp] theorem isTrap_raiseIntercept (k : Intercept) : (s.raiseIntercept k).isTrap = false := rfl

@[simp] theorem isTrap_limitStop (r : SegReg) : (s.limitStop r).isTrap = false := by
  cases r <;> rfl

theorem trapFree_checkNat (rs : List Reg) : TrapFree (s.checkNat rs) := trapFree_stopIf _ rfl

theorem trapFree_translate (k : AccessKind) (la : DWord) : TrapFree (s.translate k la) := by
  unfold State.translate
  split
  · simp
  · split
    · simp
    · split <;> simp

theorem trapFree_translateAll (k : AccessKind) (l : List DWord) : TrapFree (s.translateAll k l) := by
  induction l with
  | nil => exact trapFree_ok _
  | cons la l ih => exact .bind (trapFree_translate s k la) fun _ => .bind ih fun _ => trapFree_ok _

theorem trapFree_systemRead (w : Nat) (la : DWord) (n : Nat) : TrapFree (s.systemRead w la n) :=
  .bind (trapFree_translateAll s _ _) fun _ => trapFree_ok _

theorem trapFree_checkAlignment (g : Segment) (a : OpSize) (off : DWord) (kind : AccessKind) (k : Nat)
    (items : List Nat) : TrapFree (s.checkAlignment g a off kind k items) := by
  induction items generalizing k with
  | nil => exact trapFree_ok _
  | cons n items ih => exact .bind (trapFree_stopIf _ rfl) fun _ => ih _

theorem trapFree_segAccess (r : SegReg) (a : OpSize) (off : DWord) (items : List Nat) (kind : AccessKind) :
    TrapFree (s.segAccess r a off items kind) :=
  .bind (trapFree_stopIf _ rfl) fun _ => .bind (trapFree_stopIf _ (isTrap_limitStop s r)) fun _ =>
    .bind (trapFree_stopIf _ rfl) fun _ => .bind (trapFree_checkAlignment s _ _ _ _ _ _) fun _ =>
      trapFree_translateAll s _ _

theorem trapFree_memAccess (m : MemOp) (items : List Nat) (kind : AccessKind) :
    TrapFree (s.memAccess m items kind) := trapFree_segAccess s _ _ _ _ _

theorem trapFree_openPlace {w : Nat} (p : Place w) (kind : AccessKind) : TrapFree (s.openPlace p kind) := by
  cases p with
  | r8 r => exact trapFree_ok _
  | r16 r => exact trapFree_ok _
  | r32 r => exact trapFree_ok _
  | mem m => exact trapFree_memAccess s m _ kind

theorem trapFree_readOperand {w : Nat} (o : Operand w) : TrapFree (s.readOperand o) := by
  cases o with
  | imm v => exact trapFree_ok _
  | place p => exact .bind (trapFree_openPlace s p .read) fun _ => trapFree_ok _

theorem trapFree_checkLock (op : LockOp) (lock : Bool) (m : MemOp) (off : DWord) (n : Nat) :
    TrapFree (s.checkLock op lock m off n) := trapFree_stopIf _ rfl

theorem trapFree_checkLockPlace (op : LockOp) (lock : Bool) {w : Nat} (p : Place w) :
    TrapFree (s.checkLockPlace op lock p) := by
  cases p with
  | r8 r => exact trapFree_ok _
  | r16 r => exact trapFree_ok _
  | r32 r => exact trapFree_ok _
  | mem m => exact trapFree_checkLock s op lock m _ _

theorem trapFree_checkBitLock (op : BitOp) (lock : Bool) (m : MemOp) (off : DWord) (n : Nat) :
    TrapFree (s.checkBitLock op lock m off n) := by
  cases op with
  | bt => exact trapFree_ok _
  | btc | btr | bts => exact trapFree_checkLock s _ lock m off n

theorem trapFree_openBit (op : BitOp) (lock : Bool) {w : Nat} (base : Place w) (o : BitVec w) :
    TrapFree (s.openBit op lock base o) := by
  cases base with
  | r8 r => exact trapFree_ok _
  | r16 r => exact trapFree_ok _
  | r32 r => exact trapFree_ok _
  | mem m =>
    exact .bind (trapFree_checkBitLock s op lock m _ _) fun _ => .bind (trapFree_segAccess s _ _ _ _ _) fun _ =>
      trapFree_ok _

theorem trapFree_openSlots (n : Nat) (slots : List DWord) : TrapFree (s.openSlots n slots) := by
  induction slots with
  | nil => exact trapFree_ok _
  | cons off slots ih => exact .bind (trapFree_segAccess s _ _ _ _ _) fun _ => .bind ih fun _ => trapFree_ok _

theorem trapFree_openNewSlots (g : Segment) (n : Nat) (slots : List DWord) :
    TrapFree (s.openNewSlots g n slots) := by
  induction slots with
  | nil => exact trapFree_ok _
  | cons off slots ih =>
    exact .bind (trapFree_checkAlignment s _ _ _ _ _ _) fun _ => .bind (trapFree_translateAll s _ _) fun _ =>
      .bind ih fun _ => trapFree_ok _

theorem trapFree_readDescriptor (sel : Word) : TrapFree (s.readDescriptor sel) := trapFree_systemRead s _ _ _

theorem trapFree_readTssStack (level : BitVec 2) : TrapFree (s.readTssStack level) := by
  unfold State.readTssStack
  split <;>
    exact .bind (trapFree_stopIf _ rfl) fun _ => .bind (trapFree_systemRead s _ _ _) fun _ =>
      .bind (trapFree_systemRead s _ _ _) fun _ => trapFree_ok _

theorem trapFree_openNewStack (level : BitVec 2) (sel : Word) : TrapFree (s.openNewStack level sel) :=
  .bind (trapFree_stopIf _ rfl) fun _ => .bind (trapFree_stopIf _ rfl) fun _ =>
    .bind (trapFree_readDescriptor s sel) fun _ => .bind (trapFree_stopIf _ rfl) fun _ =>
      .bind (trapFree_stopIf _ rfl) fun _ => trapFree_ok _

theorem trapFree_readParameters (n : OpSize) (count : Nat) : TrapFree (s.readParameters n count) := by
  cases count with
  | zero => exact trapFree_ok _
  | succ c => exact .bind (trapFree_segAccess s _ _ _ _ _) fun _ => trapFree_ok _

theorem trapFree_readFarPointer (n : OpSize) (m : MemOp) : TrapFree (s.readFarPointer n m) :=
  .bind (trapFree_memAccess s m _ _) fun _ => trapFree_ok _

theorem trapFree_callSegment (n : OpSize) (sel : Word) (d : QWord) (target : DWord) :
    TrapFree (callSegment n sel d target s) :=
  .bind (trapFree_stopIf _ rfl) fun _ => .bind (trapFree_stopIf _ rfl) fun _ =>
    .bind (trapFree_openSlots s _ _) fun _ => trapFree_ok _

theorem trapFree_cmovFalse {w : Nat} (src : Place w) : TrapFree (cmovFalse src s) := by
  cases src with
  | r8 r => exact trapFree_ok _
  | r16 r => exact trapFree_ok _
  | r32 r => exact trapFree_ok _
  | mem m =>
    unfold cmovFalse
    cases s.cmovLoads with
    | true => exact .bind (trapFree_openPlace s _ _) fun _ => trapFree_ok _
    | false => exact trapFree_ok _

end

/-- A check that raises no trap leaves the rest to decide, which may use that the check passed. -/
theorem Leads.check {c : Bool} {e : Stop} {f : Unit → Result State} {P : State → Prop} (he : e.isTrap = false)
    (hf : c = false → Leads (toOutcome (f ())) P) : Leads (toOutcome (stopIf c e >>= f)) P :=
  .bind (trapFree_stopIf c he) fun _ h => hf (stopIf_eq_ok.mp h)

/-! ### Meanings that keep everything else -/

section
variable (s : State)

theorem alu_keeps (op : AluOp) (lock : Bool) {w : Nat} (dst : Place w) (src : Operand w) :
    Leads (alu op lock dst src s) (SameElse s) :=
  .bind (trapFree_checkNat s _) fun _ _ => .bind (trapFree_checkLockPlace s _ _ _) fun _ _ =>
    .bind (trapFree_openPlace s _ _) fun _ _ => .bind (trapFree_readOperand s _) fun _ _ => leads_next (by simp)

theorem cmp_keeps {w : Nat} (dst : Place w) (src : Operand w) : Leads (cmp dst src s) (SameElse s) :=
  .bind (trapFree_checkNat s _) fun _ _ => .bind (trapFree_readOperand s _) fun _ _ =>
    .bind (trapFree_readOperand s _) fun _ _ => leads_next (by simp)

theorem dec_keeps (lock : Bool) {w : Nat} (dst : Place w) : Leads (dec lock dst s) (SameElse s) :=
  .bind (trapFree_checkNat s _) fun _ _ => .bind (trapFree_checkLockPlace s _ _ _) fun _ _ =>
    .bind (trapFree_openPlace s _ _) fun _ _ => leads_next (by simp)

theorem div_keeps {w : Nat} (regs : List Reg) (dividend : State → Nat) {put : BitVec w → BitVec w → State → State}
    (src : Place w) (hput : ∀ q r u, SameElse u (put q r u)) : Leads (div regs dividend put src s) (SameElse s) :=
  .bind (trapFree_checkNat s _) fun _ _ => .bind (trapFree_readOperand s _) fun _ _ => .check rfl fun _ =>
    .check rfl fun _ => leads_next (by simp [SameElse.congr_right (hput _ _ _)])

theorem bitScan_keeps {w : Nat} (scan : BitVec w → Option Nat) (dst src : Place w) :
    Leads (bitScan scan dst src s) (SameElse s) :=
  .bind (trapFree_checkNat s _) fun _ _ => .bind (trapFree_readOperand s _) fun _ _ => leads_next (by simp)

theorem bitTest_keeps (op : BitOp) (lock : Bool) {w : Nat} (base : Place w) (off : Operand w) :
    Leads (bitTest op lock base off s) (SameElse s) :=
  .bind (trapFree_checkNat s _) fun _ _ => .bind (trapFree_openBit s _ _ _ _) fun _ _ => leads_next (by simp)

theorem execBswap_keeps (size : OpSize) (r : Reg) : Leads (execBswap size r s) (SameElse s) :=
  .bind (trapFree_checkNat s _) fun _ _ => by
    cases size <;> exact leads_next (by simp)

theorem cmov_keeps (c : Cond) {w : Nat} (dst src : Place w) : Leads (cmov c dst src s) (SameElse s) :=
  .bind (trapFree_checkNat s _) fun _ _ => by
    cases condition c s.status with
    | true => exact .bind (trapFree_readOperand s _) fun _ _ => leads_next (by simp)
    | false =>
      refine .bind (trapFree_cmovFalse s src) fun u hu => leads_next ?_
      rw [sameElse_advance, cmovFalse_eq hu]
      rfl

theorem cmpxchg_keeps (lock : Bool) {w : Nat} (acc dst src : Place w) :
    Leads (cmpxchg lock acc dst src s) (SameElse s) :=
  .bind (trapFree_checkNat s _) fun _ _ => .bind (trapFree_checkLockPlace s _ _ _) fun _ _ =>
    .bind (trapFree_openPlace s _ _) fun _ _ => leads_next (by simp)

theorem execCmpxchg8b_keeps (lock : Bool) (m : MemOp) : Leads (execCmpxchg8b lock m s) (SameElse s) :=
  .bind (trapFree_checkNat s _) fun _ _ => .bind (trapFree_checkLock s _ _ _ _ _) fun _ _ =>
    .bind (trapFree_memAccess s _ _ _) fun _ _ => leads_next (by simp; rfl)

theorem execArpl_keeps (rm : RM) (r : Reg) : Leads (execArpl rm r s) (SameElse s) :=
  .check rfl fun _ => .bind (trapFree_checkNat s _) fun _ _ => .bind (trapFree_openPlace s _ _) fun _ _ =>
    leads_next <| by
      rw [sameElse_advance, arplResult]
      split
      · rw [sameElse_poke]; rfl
      · rfl

theorem bound_keeps {w : Nat} (index : Place w) (m : MemOp) : Leads (bound index m s) (SameElse s) :=
  .bind (trapFree_checkNat s _) fun _ _ => .bind (trapFree_memAccess s _ _ _) fun _ _ => .check rfl fun _ =>
    leads_next (by simp)

theorem cmps_keeps (w : Nat) (a : OpSize) (seg : SegReg) : Leads (cmps w a seg s) (SameElse s) :=
  .bind (trapFree_checkNat s _) fun _ _ => .bind (trapFree_segAccess s _ _ _ _ _) fun _ _ =>
    .bind (trapFree_segAccess s _ _ _ _ _) fun _ _ => leads_next (by simp)

/-- An instruction that checks its registers' NaT bits and then always completes. -/
theorem checkNat_keeps {rs : List Reg} {t : State} (h : SameElse s t) :
    Leads (toOutcome do s.checkNat rs; return t) (SameElse s) :=
  .bind (trapFree_checkNat s _) fun _ _ => leads_next h

theorem execAam_keeps (imm : Byte) : Leads (execAam imm s) (SameElse s) :=
  .bind (trapFree_checkNat s _) fun _ _ => .check rfl fun _ => leads_next (by simp)

/-- A completed call, with or without its trap, goes on to the state that it leaves. -/
theorem finishCall_leads {u : State} {P : State → Prop} (h : P u) : Leads (toOutcome (finishCall u)) P := by
  unfold finishCall
  split
  · rintro t (ht | ht | ht) <;> cases ht
    exact h
  · exact leads_next h

theorem nearCall_keeps (n : OpSize) (target : DWord) : Leads (toOutcome (nearCall n target s)) (SameElse s) :=
  .check rfl fun _ => .check rfl fun _ => .bind (trapFree_openSlots s _ _) fun _ _ => finishCall_leads (by simp)

end

/-! ### What an instruction does to everything else -/

/-- The far forms of CALL (44_call.md R254, R255). -/
def FarCall (i : Instr) : Prop :=
  (∃ sel off, i = .callPtr16 sel off) ∨ (∃ sel off, i = .callPtr32 sel off) ∨ (∃ m, i = .callM16x16 m) ∨
    ∃ m, i = .callM16x32 m

/-- What an instruction that completes, or ends with its trap, has done outside the general registers, the status flags,
the instruction pointer, memory and the count of free values: nothing, but for CLD, CLI, CLTS and the far CALL. -/
inductive Effect (s : State) (i : Instr) : State → Prop where
  | nothing {t : State} (h : SameElse s t) : Effect s i t
  | clearsDf {t : State} (hi : i = .cld) (h : SameElse { s with flags := { s.flags with df := false } } t) :
    Effect s i t
  | clearsIf {t : State} (hi : i = .cli) (ha : cliAction s = .clearIf)
    (h : SameElse { s with flags := { s.flags with ifl := false } } t) : Effect s i t
  | clearsVif {t : State} (hi : i = .cli) (h : SameElse { s with flags := { s.flags with vif := false } } t) :
    Effect s i t
  | clearsTs {t : State} (hi : i = .clts) (he : s.itaniumSE = false) (hp : s.realMode = true ∨ s.cpl = 0)
    (h : SameElse { s with cr0 := { s.cr0 with ts := false } } t) : Effect s i t
  /-- A far CALL at the same privilege level, which in protected mode is the RPL of the new CS. -/
  | loadsCs {t : State} (hi : FarCall i) (cs : Segment) (hr : s.protectedMode = true → rpl cs.selector = s.cpl)
    (h : SameElse (s.setCs cs) t) : Effect s i t
  /-- A far CALL through a call gate to a more privileged level (44_call.md R264). -/
  | switchesStack {t : State} (hi : FarCall i) (he : s.itaniumSE = false) (hp : s.protectedMode = true)
    (ss cs : Segment) (esp target : DWord) (level : BitVec 2) (hl : level.toNat < s.cpl.toNat)
    (hr : rpl cs.selector = level) (h : SameElse (s.switched ss cs esp target level) t) : Effect s i t

section
variable (s : State)

theorem rpl_withRpl (sel : Word) (l : BitVec 2) : rpl (withRpl sel l) = l := by
  apply BitVec.eq_of_getLsbD_eq
  intro k hk
  rw [rpl, BitVec.getLsbD_extractLsb', withRpl, BitVec.getLsbD_append]
  simp [hk]

theorem execCld_effect : Leads (execCld s) (Effect s .cld) := leads_next (.clearsDf rfl (by simp))

/-- A CLI that cleared a flag, with or without its trap, goes on to the state that it leaves. -/
theorem cliFinish_leads {old : Bool} {u : State} {P : State → Prop} (h : P u) :
    Leads (toOutcome (cliFinish old u)) P := by
  unfold cliFinish
  split
  · rintro t (ht | ht | ht) <;> cases ht
    exact h
  · exact leads_next h

theorem execCli_effect : Leads (execCli s) (Effect s .cli) := by
  unfold execCli
  cases ha : cliAction s with
  | clearIf => exact cliFinish_leads (.clearsIf rfl ha (by simp))
  | clearVif => exact cliFinish_leads (.clearsVif rfl (by simp))
  | protection => exact leads_error rfl

theorem execClts_effect : Leads (execClts s) (Effect s .clts) :=
  .check rfl fun he => .check rfl fun hp => leads_next <| .clearsTs rfl he
    (by cases hr : s.realMode <;> simp_all) (by simp)

/-- A task gate ends in a refusal at the latest (log 23). -/
theorem farTaskGate_leads (sel : Word) (gate : QWord) (P : State → Prop) :
    Leads (toOutcome (farTaskGate sel gate s)) P :=
  .check rfl fun _ => .check rfl fun _ => .check rfl fun _ => .check rfl fun _ =>
    .bind (trapFree_readDescriptor s _) fun _ _ => .check rfl fun _ => .check rfl fun _ => leads_error rfl

/-- So does a task state segment. -/
theorem farTss_leads (sel : Word) (busy : Bool) (d : QWord) (P : State → Prop) :
    Leads (toOutcome (farTss sel busy d s)) P :=
  .check rfl fun _ => .check rfl fun _ => .check rfl fun _ => leads_error rfl

variable {i : Instr} (hi : FarCall i)
include hi

theorem farReal_effect (n : OpSize) (sel : Word) (off : DWord) (hp : s.protectedMode = false) :
    Leads (toOutcome (farReal n sel off s)) (Effect s i) :=
  .check rfl fun _ => .check rfl fun _ => .bind (trapFree_openSlots s _ _) fun _ _ => finishCall_leads <|
    .loadsCs hi (s.segs.cs.loadReal sel) (by simp [hp]) <| by
      rw [sameElse_drew, sameElse_setPc]
      exact SameElse.setCs (by simp) _

/-- A call to a segment at the same level: its CS has the caller's level as RPL (44_call.md R259, R260). -/
theorem callSegment_effect {n : OpSize} {sel : Word} {d : QWord} {target : DWord} {t : State}
    (h : callSegment n sel d target s = .ok t) : Effect s i t := by
  obtain ⟨-, -, addrs, -, rfl⟩ := callSegment_eq_ok.mp h
  refine .loadsCs hi (Segment.ofDescriptor (withRpl sel s.cpl) d) (fun _ => rpl_withRpl sel s.cpl) ?_
  rw [sameElse_drew, sameElse_setPc]
  exact SameElse.setCs (by simp) _

theorem farCode_effect (n : OpSize) (sel : Word) (off : DWord) (d : QWord) :
    Leads (toOutcome (farCode n sel off d s)) (Effect s i) :=
  .check rfl fun _ => .check rfl fun _ => .bind (trapFree_callSegment s _ _ _ _) fun _ h =>
    finishCall_leads (callSegment_effect s hi h)

theorem morePrivilege_effect (g : OpSize) (gate : QWord) (csel : Word) (c : QWord) (he : s.itaniumSE = false)
    (hp : s.protectedMode = true) (hl : (descDpl c).toNat < s.cpl.toNat) :
    Leads (toOutcome (morePrivilege g gate csel c s)) (Effect s i) :=
  .bind (trapFree_readTssStack s _) fun stack _ => .bind (trapFree_openNewStack s _ _) fun ss _ =>
    .check rfl fun _ => .check rfl fun _ => .bind (trapFree_readParameters s _ _) fun _ _ =>
      .bind (trapFree_openNewSlots s _ _ _) fun _ _ => leads_next <|
        .switchesStack hi he hp ss (Segment.ofDescriptor (withRpl csel (descDpl c)) c) _ _ (descDpl c) hl
          (rpl_withRpl csel _) <| by
            rw [sameElse_drew]
            exact SameElse.switched (by simp) _ _ _ _ _

theorem gateTarget_effect (g : OpSize) (gate : QWord) (he : s.itaniumSE = false) (hp : s.protectedMode = true) :
    Leads (toOutcome (gateTarget g gate s)) (Effect s i) :=
  .check rfl fun _ => .check rfl fun _ => .bind (trapFree_readDescriptor s _) fun c _ => .check rfl fun _ =>
    .check rfl fun _ => by
      cases hc : !c.getLsbD 42 && decide ((descDpl c).toNat < s.cpl.toNat) with
      | true =>
        have hl : (descDpl c).toNat < s.cpl.toNat := of_decide_eq_true (Bool.and_eq_true_iff.mp hc).2
        exact morePrivilege_effect s hi g gate _ c he hp hl
      | false => exact fun t ht => callSegment_effect s hi ((trapFree_callSegment s _ _ _ _).ok_of_reaches ht)

theorem farCallGate_effect (g : OpSize) (sel : Word) (gate : QWord) (hp : s.protectedMode = true) :
    Leads (toOutcome (farCallGate g sel gate s)) (Effect s i) :=
  .check rfl fun _ => .check rfl fun _ => .check rfl fun he => gateTarget_effect s hi g gate he hp

theorem farProtected_effect (n : OpSize) (sel : Word) (off : DWord) (hp : s.protectedMode = true) :
    Leads (toOutcome (farProtected n sel off s)) (Effect s i) :=
  .check rfl fun _ => .check rfl fun _ => .bind (trapFree_readDescriptor s _) fun d _ => by
    cases descKind d with
    | code => exact farCode_effect s hi n sel off d
    | callGate g => exact farCallGate_effect s hi g sel d hp
    | taskGate => exact farTaskGate_leads s sel d _
    | tss busy => exact farTss_leads s sel busy d _
    | data => exact leads_error rfl
    | other => exact leads_error rfl

theorem farCall_effect (n : OpSize) (sel : Word) (off : DWord) :
    Leads (toOutcome (farCall n sel off s)) (Effect s i) := by
  unfold farCall
  cases hp : s.protectedMode with
  | true => exact farProtected_effect s hi n sel off hp
  | false => exact farReal_effect s hi n sel off hp

/-- A far call through a pointer in memory. -/
theorem farCallMem_effect (n : OpSize) (m : MemOp) (rs : List Reg) :
    Leads (toOutcome do s.checkNat rs; let p ← s.readFarPointer n m; farCall n p.1 p.2 s) (Effect s i) :=
  .bind (trapFree_checkNat s _) fun _ _ => .bind (trapFree_readFarPointer s n m) fun _ _ => farCall_effect s hi n _ _

end

/-- Every instruction, by the operation that gives it its meaning. -/
theorem exec_effect (i : Instr) (s : State) : Leads (exec i s) (Effect s i) := by
  have keeps {o : Host.Outcome State Fault Refusal} (h : Leads o (SameElse s)) : Leads o (Effect s i) :=
    h.imp fun _ => .nothing
  cases i with
  | adcAlIb | adcAxIw | adcEaxId | adcRm8Ib | adcRm16Iw | adcRm32Id | adcRm16Ib | adcRm32Ib | adcRm8R8 |
    adcRm16R16 | adcRm32R32 | adcR8Rm8 | adcR16Rm16 | adcR32Rm32 | addAlIb | addAxIw | addEaxId | addRm8Ib |
    addRm16Iw | addRm32Id | addRm16Ib | addRm32Ib | addRm8R8 | addRm16R16 | addRm32R32 | addR8Rm8 | addR16Rm16 |
    addR32Rm32 | andAlIb | andAxIw | andEaxId | andRm8Ib | andRm16Iw | andRm32Id | andRm16Ib | andRm32Ib | andRm8R8
  | andRm16R16 | andRm32R32 | andR8Rm8 | andR16Rm16 | andR32Rm32 =>
    exact keeps (alu_keeps s _ _ _ _)
  | cmpAlIb | cmpAxIw | cmpEaxId | cmpRm8Ib | cmpRm16Iw | cmpRm32Id | cmpRm16Ib | cmpRm32Ib | cmpRm8R8 |
    cmpRm16R16 | cmpRm32R32 | cmpR8Rm8 | cmpR16Rm16 | cmpR32Rm32 =>
    exact keeps (cmp_keeps s _ _)
  | decRm8 | decRm16 | decRm32 | decR16 | decR32 =>
    exact keeps (dec_keeps s _ _)
  | divRm8 | divRm16 | divRm32 =>
    exact keeps (div_keeps s _ _ _ fun _ _ _ => rfl)
  | cmovO16 | cmovO32 | cmovNo16 | cmovNo32 | cmovB16 | cmovB32 | cmovAe16 | cmovAe32 | cmovE16 | cmovE32 |
    cmovNe16 | cmovNe32 | cmovBe16 | cmovBe32 | cmovA16 | cmovA32 | cmovS16 | cmovS32 | cmovNs16 | cmovNs32 |
    cmovP16 | cmovP32 | cmovNp16 | cmovNp32 | cmovL16 | cmovL32 | cmovGe16 | cmovGe32 | cmovLe16 | cmovLe32 |
    cmovG16 | cmovG32 =>
    exact keeps (cmov_keeps s _ _ _)
  | bsfR16Rm16 | bsfR32Rm32 | bsrR16Rm16 | bsrR32Rm32 =>
    exact keeps (bitScan_keeps s _ _ _)
  | btRm16R16 | btRm32R32 | btRm16Ib | btRm32Ib | btcRm16R16 | btcRm32R32 | btcRm16Ib | btcRm32Ib | btrRm16R16 |
    btrRm32R32 | btrRm16Ib | btrRm32Ib | btsRm16R16 | btsRm32R32 | btsRm16Ib | btsRm32Ib =>
    exact keeps (bitTest_keeps s _ _ _ _)
  | cmpsb | cmpsw | cmpsd =>
    exact keeps (cmps_keeps s _ _ _)
  | cmpxchgRm8R8 | cmpxchgRm16R16 | cmpxchgRm32R32 =>
    exact keeps (cmpxchg_keeps s _ _ _ _)
  | boundR16 | boundR32 =>
    exact keeps (bound_keeps s _ _)
  | aaa | aas | aad | daa | das | cbw | cwde | cwd | cdq | cpuid =>
    exact keeps (checkNat_keeps s (by simp))
  | clc | cmc => exact keeps (leads_next rfl)
  | aam imm => exact keeps (execAam_keeps s imm)
  | arpl rm r => exact keeps (execArpl_keeps s rm r)
  | bswap size r => exact keeps (execBswap_keeps s size r)
  | cmpxchg8b lock m => exact keeps (execCmpxchg8b_keeps s lock m)
  | callRel16 | callRel32 => exact keeps (.bind (trapFree_checkNat s _) fun _ _ => nearCall_keeps s _ _)
  | callRm16 | callRm32 =>
    exact keeps (.bind (trapFree_checkNat s _) fun _ _ => .bind (trapFree_readOperand s _) fun _ _ =>
      nearCall_keeps s _ _)
  | callPtr16 sel off =>
    exact .bind (trapFree_checkNat s _) fun _ _ => farCall_effect s (.inl ⟨sel, off, rfl⟩) _ _ _
  | callPtr32 sel off =>
    exact .bind (trapFree_checkNat s _) fun _ _ => farCall_effect s (.inr (.inl ⟨sel, off, rfl⟩)) _ _ _
  | callM16x16 m => exact farCallMem_effect s (.inr (.inr (.inl ⟨m, rfl⟩))) _ _ _
  | callM16x32 m => exact farCallMem_effect s (.inr (.inr (.inr ⟨m, rfl⟩))) _ _ _
  | cld => exact execCld_effect s
  | cli => exact execCli_effect s
  | clts => exact execClts_effect s

/-! ### The step -/

theorem trapFree_fetchByte (s : State) (k : Nat) : TrapFree (s.fetchByte k) :=
  .bind (trapFree_stopIf _ rfl) fun _ => .bind (trapFree_translate s _ _) fun _ => .bind (trapFree_stopIf _ rfl)
    fun _ => trapFree_ok _

/-- What ends the bytes of an instruction is no trap. -/
theorem fetchWindow_stop (s : State) (n k : Nat) {e : Stop} (h : (s.fetchWindow n k).stop = some e) :
    e.isTrap = false := by
  induction n generalizing k with
  | zero => cases h
  | succ n ih =>
    rw [State.fetchWindow] at h
    split at h
    · next e' he =>
      obtain rfl : e' = e := Option.some.inj h
      exact trapFree_fetchByte s k e' he
    · exact ih _ h

theorem trapFree_fetchInstr (s : State) : TrapFree s.fetchInstr := by
  unfold State.fetchInstr State.interpret
  split
  · simp
  · split
    · next e he => simpa using fetchWindow_stop s _ _ he
    · simp
  · simp
  · exact (trapFree_error _).mpr rfl
  · exact (trapFree_error _).mpr rfl

/-- Noting that the first instruction has completed adds nothing to where an outcome goes. -/
theorem reaches_complete {o : Host.Outcome State Fault Refusal} {t : State} :
    Reaches (complete o) t ↔ ∃ u, Reaches o u ∧ t = u.entered := by
  unfold complete
  split <;> simp [Reaches, eq_comm]

/-- Where a step goes on, an instruction was fetched, and the state is the one its meaning goes on to. -/
theorem reaches_step {s t : State} (h : Reaches (step s) t) :
    ∃ i next u, s.fetchInstr = .ok (i, next) ∧ Reaches (exec i { s with nextPc := next }) u ∧ t = u.entered := by
  unfold step at h
  split at h
  · simp [Reaches] at h
  split at h
  · simp [Reaches, State.raiseItanium] at h
  split at h
  · next e he => exact absurd h (leads_error (P := fun _ => False) (trapFree_fetchInstr s e he) t)
  · next i next hi =>
    obtain ⟨u, hu, rfl⟩ := reaches_complete.mp h
    exact ⟨i, next, u, hi, hu, rfl⟩

/-- What a step does outside the general registers, the status flags and memory is what its instruction does. -/
theorem stepsTo_effect {s t : State} (h : Claims.StepsTo s t) :
    ∃ i next u, s.fetchInstr = .ok (i, next) ∧ Effect { s with nextPc := next } i u ∧ t = u.entered := by
  obtain ⟨i, next, u, hi, hu, rfl⟩ := reaches_step h
  exact ⟨i, next, u, hi, exec_effect i _ u hu, rfl⟩

/-- The step at bytes that decode: the meaning, completed. -/
theorem step_of_decode {s : State} {i : Instr} {rest : List Byte} (hend : s.atEnd = false)
    (hfp : s.highFpFault = false) (hd : decode s.codeSize (s.fetchWindow maxLength 0).bytes = .done i rest) :
    step s = complete (exec i { s with
      nextPc := s.pc + BitVec.ofNat 32 ((s.fetchWindow maxLength 0).bytes.length - rest.length) }) := by
  simp [step, hend, hfp, State.fetchInstr, State.interpret, hd]

/-- CLI clears IF only where IOPL allows it (45_convert_and_flag_control.md R290). -/
theorem iopl_allows_of_clearIf {s : State} (h : cliAction s = .clearIf) :
    s.realMode = true ∨ (s.protectedMode = true ∧ s.cpl.toNat ≤ s.flags.iopl.toNat) ∨
      (s.v86Mode = true ∧ s.flags.iopl = 3) := by
  unfold cliAction cliByLevel at h
  unfold State.realMode State.protectedMode State.v86Mode
  split_ifs at h <;> simp_all

end Sys2Proof.Machine

section

open Sys2Proof Sys2Proof.Machine Sys2Proof.Claims

/-- Settles O10, by evaluating the launch state. -/
theorem resetMeetsTheInvariants : Obligations.ResetMeetsTheInvariants :=
  ⟨rfl, rfl, rfl, rfl⟩

/-- Settles O7: the step is the completed meaning, for each outcome of the meaning. -/
theorem stepRunsDecodedInstruction : Obligations.StepRunsDecodedInstruction := by
  rintro s _ i rest hend hfp rfl hd
  have run {o} (h : exec i { s with
      nextPc := s.pc + BitVec.ofNat 32 ((s.fetchWindow maxLength 0).bytes.length - rest.length) } = o) :
      step s = complete o := h ▸ step_of_decode hend hfp hd
  exact ⟨fun _ h => run h, fun _ h => run h, fun _ h => run h, fun _ _ _ _ h => run h, fun _ _ h => run h,
    fun _ _ _ h => run h, fun _ h => run h⟩

/-- Settles O12, from what an instruction does outside the general registers, the status flags and memory. -/
theorem everyStepKeepsSystemState : Obligations.EveryStepKeepsSystemState := by
  intro s t h
  obtain ⟨i, next, u, -, he, rfl⟩ := stepsTo_effect h
  cases he with
  | nothing | clearsDf | clearsIf | clearsVif | clearsTs | loadsCs | switchesStack =>
    next h => rw [h]; simp

/-- Settles O13: CS and CPL change together, or not at all. -/
theorem everyStepKeepsPrivilegeInSelector : Obligations.EveryStepKeepsPrivilegeInSelector := by
  intro s t hp hr h
  obtain ⟨i, next, u, -, he, rfl⟩ := stepsTo_effect h
  cases he with
  | nothing | clearsDf | clearsIf | clearsVif | clearsTs => next h => rw [h]; exact hr
  | loadsCs _ cs hcs h => rw [h]; exact hcs hp
  | switchesStack _ _ _ ss cs esp target level _ hcs h => rw [h]; exact hcs

/-- Settles O15: only a stack switch loads CPL. -/
theorem privilegeRisesOnlyByFarCall : Obligations.PrivilegeRisesOnlyByFarCall := by
  intro s t h hne
  obtain ⟨i, next, u, hi, he, rfl⟩ := stepsTo_effect h
  cases he with
  | switchesStack hfar hia hp ss cs esp target level hl _ h =>
    rw [h]
    exact ⟨hl, hia, hp, i, next, hi, hfar⟩
  | nothing | clearsDf | clearsIf | clearsVif | clearsTs | loadsCs =>
    next h => rw [h] at hne; exact absurd rfl hne

/-- Settles O16: only CLTS writes TS. -/
theorem taskSwitchedClearedOnlyWithPrivilege : Obligations.TaskSwitchedClearedOnlyWithPrivilege := by
  intro s t h hne
  obtain ⟨i, next, u, hi, he, rfl⟩ := stepsTo_effect h
  cases he with
  | clearsTs hclts hia hp h => exact ⟨⟨next, hclts ▸ hi⟩, hia, hp⟩
  | nothing | clearsDf | clearsIf | clearsVif | loadsCs | switchesStack =>
    next h => rw [h] at hne; exact absurd rfl hne

/-- Settles O17: only CLI writes IF, and only where its decision is to clear it. -/
theorem interruptFlagChangesOnlyWithPrivilege : Obligations.InterruptFlagChangesOnlyWithPrivilege := by
  intro s t h hne
  obtain ⟨i, next, u, hi, he, rfl⟩ := stepsTo_effect h
  cases he with
  | clearsIf hcli ha h => exact ⟨⟨next, hcli ▸ hi⟩, iopl_allows_of_clearIf ha⟩
  | nothing | clearsDf | clearsVif | clearsTs | loadsCs | switchesStack =>
    next h => rw [h] at hne; exact absurd rfl hne

end

/-! ## Settling the statements about memory

### What an instruction does to memory and to the record of stores

`Recorded` says it once: both stay in canonical form, and every byte changed since the first state is in the record of
the second. Stores keep it, and so does CPUID, which clears the record and stores nothing. -/

namespace Sys2Proof.Machine

/-- From `s` to `t` memory and the record of stores stay in canonical form, and the bytes changed are in the record
(20_memory.md R112). -/
structure Recorded (s t : State) : Prop where
  wf : Memory.wf s.mem = true → Memory.wf t.mem = true
  rising : rising s.stored = true → rising t.stored = true
  changed : ∀ a, Memory.read t.mem a ≠ Memory.read s.mem a → a ∈ t.stored

section
variable (s u : State)

@[simp] theorem recorded_self : Recorded s s := ⟨id, id, fun _ h => absurd rfl h⟩

variable {s u} in
/-- Memory and the record of stores are all that counts. -/
theorem Recorded.congr {t : State} (h : Recorded s u) (hm : t.mem = u.mem) (hs : t.stored = u.stored) :
    Recorded s t :=
  ⟨hm ▸ h.wf, hs ▸ h.rising, hm ▸ hs ▸ h.changed⟩

variable {s u} in
/-- A write that keeps the canonical forms and the record's entries, and enters what it changes. -/
theorem Recorded.write {t : State} (h : Recorded s u) (hwf : Memory.wf u.mem = true → Memory.wf t.mem = true)
    (hr : Machine.rising u.stored = true → Machine.rising t.stored = true)
    (hs : ∀ a, Memory.read t.mem a ≠ Memory.read u.mem a ∨ a ∈ u.stored → a ∈ t.stored) : Recorded s t where
  wf := hwf ∘ h.wf
  rising := hr ∘ h.rising
  changed a ha := by
    by_cases hu : Memory.read u.mem a = Memory.read s.mem a
    · exact hs a (.inl (hu ▸ ha))
    · exact hs a (.inr (h.changed a hu))

@[simp] theorem recorded_setStatus (f : StatusFlags) : Recorded s (u.setStatus f) ↔ Recorded s u :=
  ⟨fun h => h.congr rfl rfl, fun h => h.congr rfl rfl⟩

@[simp] theorem recorded_drew (n : Nat) : Recorded s (u.drew n) ↔ Recorded s u :=
  ⟨fun h => h.congr rfl rfl, fun h => h.congr rfl rfl⟩

@[simp] theorem recorded_advance : Recorded s u.advance ↔ Recorded s u :=
  ⟨fun h => h.congr rfl rfl, fun h => h.congr rfl rfl⟩

@[simp] theorem recorded_setPc (v : DWord) : Recorded s (u.setPc v) ↔ Recorded s u :=
  ⟨fun h => h.congr rfl rfl, fun h => h.congr rfl rfl⟩

@[simp] theorem recorded_setCs (g : Segment) : Recorded s (u.setCs g) ↔ Recorded s u :=
  ⟨fun h => h.congr rfl rfl, fun h => h.congr rfl rfl⟩

@[simp] theorem recorded_switched (ss cs : Segment) (esp target : DWord) (level : BitVec 2) :
    Recorded s (u.switched ss cs esp target level) ↔ Recorded s u :=
  ⟨fun h => h.congr rfl rfl, fun h => h.congr rfl rfl⟩

@[simp] theorem recorded_set8 (r : Reg8) (v : Byte) : Recorded s (u.set8 r v) ↔ Recorded s u :=
  ⟨fun h => h.congr rfl rfl, fun h => h.congr rfl rfl⟩

@[simp] theorem recorded_set16 (r : Reg) (v : Word) : Recorded s (u.set16 r v) ↔ Recorded s u :=
  ⟨fun h => h.congr rfl rfl, fun h => h.congr rfl rfl⟩

@[simp] theorem recorded_set32 (r : Reg) (v : DWord) : Recorded s (u.set32 r v) ↔ Recorded s u :=
  ⟨fun h => h.congr rfl rfl, fun h => h.congr rfl rfl⟩

@[simp] theorem recorded_stepIndex (a : OpSize) (r : Reg) (n : Nat) :
    Recorded s (u.stepIndex a r n) ↔ Recorded s u := by
  unfold State.stepIndex
  split <;> simp

variable {s u} (h : Recorded s u)
include h

@[simp] theorem recorded_store {w : Nat} (l : List Nat) (v : BitVec w) : Recorded s (u.store l v) :=
  h.write (State.store_wf _ _ _) (State.store_rising _ _ _) fun a ha => by
    rw [State.mem_store_stored]
    exact ha.imp_left fun hne => by_contra fun hl => hne (State.store_read_other _ _ _ _ hl)

@[simp] theorem recorded_storeSlots (ps : List (List Nat)) (vs : List DWord) : Recorded s (u.storeSlots ps vs) :=
  h.write (State.storeSlots_wf _ _ _) (State.storeSlots_rising _ _ _) (State.storeSlots_subset _ _ _)

@[simp] theorem recorded_pushed (slots : List DWord) (addrs : List (List Nat)) (vals : List DWord) :
    Recorded s (u.pushed slots addrs vals) :=
  (recorded_storeSlots h addrs vals).congr (by rw [State.pushed_eq]) (by rw [State.pushed_eq])

@[simp] theorem recorded_poke {w : Nat} (p : Place w) (addrs : List Nat) (v : BitVec w) :
    Recorded s (u.poke p addrs v) := by
  cases p with
  | r8 r => exact h.congr rfl rfl
  | r16 r => exact h.congr rfl rfl
  | r32 r => exact h.congr rfl rfl
  | mem m => exact recorded_store h addrs v

@[simp] theorem recorded_pokeBit (op : BitOp) {w : Nat} (p : Place w) (addrs : List Nat) (v : BitVec w) :
    Recorded s (u.pokeBit op p addrs v) := by
  cases op with
  | bt => exact h
  | btc | btr | bts => exact recorded_poke h p addrs v

end

section
variable (s : State)

theorem alu_records (op : AluOp) (lock : Bool) {w : Nat} (dst : Place w) (src : Operand w) :
    Leads (alu op lock dst src s) (Recorded s) :=
  .bind (trapFree_checkNat s _) fun _ _ => .bind (trapFree_checkLockPlace s _ _ _) fun _ _ =>
    .bind (trapFree_openPlace s _ _) fun _ _ => .bind (trapFree_readOperand s _) fun _ _ => leads_next (by simp)

theorem cmp_records {w : Nat} (dst : Place w) (src : Operand w) : Leads (cmp dst src s) (Recorded s) :=
  .bind (trapFree_checkNat s _) fun _ _ => .bind (trapFree_readOperand s _) fun _ _ =>
    .bind (trapFree_readOperand s _) fun _ _ => leads_next (by simp)

theorem dec_records (lock : Bool) {w : Nat} (dst : Place w) : Leads (dec lock dst s) (Recorded s) :=
  .bind (trapFree_checkNat s _) fun _ _ => .bind (trapFree_checkLockPlace s _ _ _) fun _ _ =>
    .bind (trapFree_openPlace s _ _) fun _ _ => leads_next (by simp)

theorem div_records {w : Nat} (regs : List Reg) (dividend : State → Nat) {put : BitVec w → BitVec w → State → State}
    (src : Place w) (hput : ∀ q r u, Recorded s u → Recorded s (put q r u)) :
    Leads (div regs dividend put src s) (Recorded s) :=
  .bind (trapFree_checkNat s _) fun _ _ => .bind (trapFree_readOperand s _) fun _ _ => .check rfl fun _ =>
    .check rfl fun _ => leads_next (by simp [hput])

theorem bitScan_records {w : Nat} (scan : BitVec w → Option Nat) (dst src : Place w) :
    Leads (bitScan scan dst src s) (Recorded s) :=
  .bind (trapFree_checkNat s _) fun _ _ => .bind (trapFree_readOperand s _) fun _ _ => leads_next (by simp)

theorem bitTest_records (op : BitOp) (lock : Bool) {w : Nat} (base : Place w) (off : Operand w) :
    Leads (bitTest op lock base off s) (Recorded s) :=
  .bind (trapFree_checkNat s _) fun _ _ => .bind (trapFree_openBit s _ _ _ _) fun _ _ => leads_next (by simp)

theorem execBswap_records (size : OpSize) (r : Reg) : Leads (execBswap size r s) (Recorded s) :=
  .bind (trapFree_checkNat s _) fun _ _ => by
    cases size <;> exact leads_next (by simp)

theorem cmov_records (c : Cond) {w : Nat} (dst src : Place w) : Leads (cmov c dst src s) (Recorded s) :=
  .bind (trapFree_checkNat s _) fun _ _ => by
    cases condition c s.status with
    | true => exact .bind (trapFree_readOperand s _) fun _ _ => leads_next (by simp)
    | false =>
      refine .bind (trapFree_cmovFalse s src) fun u hu => leads_next ?_
      rw [recorded_advance, cmovFalse_eq hu]
      exact (recorded_self s).congr rfl rfl

theorem cmpxchg_records (lock : Bool) {w : Nat} (acc dst src : Place w) :
    Leads (cmpxchg lock acc dst src s) (Recorded s) :=
  .bind (trapFree_checkNat s _) fun _ _ => .bind (trapFree_checkLockPlace s _ _ _) fun _ _ =>
    .bind (trapFree_openPlace s _ _) fun _ _ => leads_next (by simp)

theorem execCmpxchg8b_records (lock : Bool) (m : MemOp) : Leads (execCmpxchg8b lock m s) (Recorded s) :=
  .bind (trapFree_checkNat s _) fun _ _ => .bind (trapFree_checkLock s _ _ _ _ _) fun _ _ =>
    .bind (trapFree_memAccess s _ _ _) fun _ _ => leads_next <| by
      rw [recorded_advance]
      refine recorded_store ?_ _ _
      exact (recorded_self s).congr rfl rfl

theorem execArpl_records (rm : RM) (r : Reg) : Leads (execArpl rm r s) (Recorded s) :=
  .check rfl fun _ => .bind (trapFree_checkNat s _) fun _ _ => .bind (trapFree_openPlace s _ _) fun _ _ =>
    leads_next <| by
      rw [recorded_advance, arplResult]
      split
      · refine recorded_poke ?_ _ _ _
        exact (recorded_self s).congr rfl rfl
      · exact (recorded_self s).congr rfl rfl

theorem bound_records {w : Nat} (index : Place w) (m : MemOp) : Leads (bound index m s) (Recorded s) :=
  .bind (trapFree_checkNat s _) fun _ _ => .bind (trapFree_memAccess s _ _ _) fun _ _ => .check rfl fun _ =>
    leads_next (by simp)

theorem cmps_records (w : Nat) (a : OpSize) (seg : SegReg) : Leads (cmps w a seg s) (Recorded s) :=
  .bind (trapFree_checkNat s _) fun _ _ => .bind (trapFree_segAccess s _ _ _ _ _) fun _ _ =>
    .bind (trapFree_segAccess s _ _ _ _ _) fun _ _ => leads_next (by simp)

/-- An instruction that checks its registers' NaT bits and then always completes. -/
theorem checkNat_records {rs : List Reg} {t : State} (h : Recorded s t) :
    Leads (toOutcome do s.checkNat rs; return t) (Recorded s) :=
  .bind (trapFree_checkNat s _) fun _ _ => leads_next h

/-- CPUID empties the record, and has changed no byte (47_cpuid.md R338). -/
theorem execCpuid_records : Leads (execCpuid s) (Recorded s) :=
  checkNat_records s ⟨id, fun _ => rfl, fun _ h => absurd rfl h⟩

theorem execAam_records (imm : Byte) : Leads (execAam imm s) (Recorded s) :=
  .bind (trapFree_checkNat s _) fun _ _ => .check rfl fun _ => leads_next (by simp)

theorem execCli_records : Leads (execCli s) (Recorded s) := by
  unfold execCli
  cases cliAction s with
  | clearIf => exact cliFinish_leads ((recorded_self s).congr rfl rfl)
  | clearVif => exact cliFinish_leads ((recorded_self s).congr rfl rfl)
  | protection => exact leads_error rfl

theorem execClts_records : Leads (execClts s) (Recorded s) :=
  .check rfl fun _ => .check rfl fun _ => leads_next ((recorded_self s).congr rfl rfl)

/-! ### CALL -/

theorem nearCall_records (n : OpSize) (target : DWord) : Leads (toOutcome (nearCall n target s)) (Recorded s) :=
  .check rfl fun _ => .check rfl fun _ => .bind (trapFree_openSlots s _ _) fun _ _ => finishCall_leads (by simp)

theorem farReal_records (n : OpSize) (sel : Word) (off : DWord) :
    Leads (toOutcome (farReal n sel off s)) (Recorded s) :=
  .check rfl fun _ => .check rfl fun _ => .bind (trapFree_openSlots s _ _) fun _ _ => finishCall_leads (by simp)

theorem callSegment_records {n : OpSize} {sel : Word} {d : QWord} {target : DWord} {t : State}
    (h : callSegment n sel d target s = .ok t) : Recorded s t := by
  obtain ⟨-, -, addrs, -, rfl⟩ := callSegment_eq_ok.mp h
  simp

theorem farCode_records (n : OpSize) (sel : Word) (off : DWord) (d : QWord) :
    Leads (toOutcome (farCode n sel off d s)) (Recorded s) :=
  .check rfl fun _ => .check rfl fun _ => .bind (trapFree_callSegment s _ _ _ _) fun _ h =>
    finishCall_leads (callSegment_records s h)

theorem morePrivilege_records (g : OpSize) (gate : QWord) (csel : Word) (c : QWord) :
    Leads (toOutcome (morePrivilege g gate csel c s)) (Recorded s) :=
  .bind (trapFree_readTssStack s _) fun _ _ => .bind (trapFree_openNewStack s _ _) fun _ _ =>
    .check rfl fun _ => .check rfl fun _ => .bind (trapFree_readParameters s _ _) fun _ _ =>
      .bind (trapFree_openNewSlots s _ _ _) fun _ _ => leads_next (by simp)

theorem gateTarget_records (g : OpSize) (gate : QWord) : Leads (toOutcome (gateTarget g gate s)) (Recorded s) :=
  .check rfl fun _ => .check rfl fun _ => .bind (trapFree_readDescriptor s _) fun c _ => .check rfl fun _ =>
    .check rfl fun _ => by
      cases !c.getLsbD 42 && decide ((descDpl c).toNat < s.cpl.toNat) with
      | true => exact morePrivilege_records s g gate _ c
      | false => exact fun t ht => callSegment_records s ((trapFree_callSegment s _ _ _ _).ok_of_reaches ht)

theorem farCallGate_records (g : OpSize) (sel : Word) (gate : QWord) :
    Leads (toOutcome (farCallGate g sel gate s)) (Recorded s) :=
  .check rfl fun _ => .check rfl fun _ => .check rfl fun _ => gateTarget_records s g gate

theorem farProtected_records (n : OpSize) (sel : Word) (off : DWord) :
    Leads (toOutcome (farProtected n sel off s)) (Recorded s) :=
  .check rfl fun _ => .check rfl fun _ => .bind (trapFree_readDescriptor s _) fun d _ => by
    cases descKind d with
    | code => exact farCode_records s n sel off d
    | callGate g => exact farCallGate_records s g sel d
    | taskGate => exact farTaskGate_leads s sel d _
    | tss busy => exact farTss_leads s sel busy d _
    | data => exact leads_error rfl
    | other => exact leads_error rfl

theorem farCall_records (n : OpSize) (sel : Word) (off : DWord) :
    Leads (toOutcome (farCall n sel off s)) (Recorded s) := by
  unfold farCall
  cases s.protectedMode with
  | true => exact farProtected_records s n sel off
  | false => exact farReal_records s n sel off

/-- Every instruction, by the operation that gives it its meaning. -/
theorem exec_records (i : Instr) : Leads (exec i s) (Recorded s) := by
  cases i with
  | adcAlIb | adcAxIw | adcEaxId | adcRm8Ib | adcRm16Iw | adcRm32Id | adcRm16Ib | adcRm32Ib | adcRm8R8 |
    adcRm16R16 | adcRm32R32 | adcR8Rm8 | adcR16Rm16 | adcR32Rm32 | addAlIb | addAxIw | addEaxId | addRm8Ib |
    addRm16Iw | addRm32Id | addRm16Ib | addRm32Ib | addRm8R8 | addRm16R16 | addRm32R32 | addR8Rm8 | addR16Rm16 |
    addR32Rm32 | andAlIb | andAxIw | andEaxId | andRm8Ib | andRm16Iw | andRm32Id | andRm16Ib | andRm32Ib | andRm8R8
  | andRm16R16 | andRm32R32 | andR8Rm8 | andR16Rm16 | andR32Rm32 => exact alu_records s _ _ _ _
  | cmpAlIb | cmpAxIw | cmpEaxId | cmpRm8Ib | cmpRm16Iw | cmpRm32Id | cmpRm16Ib | cmpRm32Ib | cmpRm8R8 |
    cmpRm16R16 | cmpRm32R32 | cmpR8Rm8 | cmpR16Rm16 | cmpR32Rm32 => exact cmp_records s _ _
  | decRm8 | decRm16 | decRm32 | decR16 | decR32 => exact dec_records s _ _
  | divRm8 | divRm16 | divRm32 => exact div_records s _ _ _ fun _ _ _ h => h.congr rfl rfl
  | cmovO16 | cmovO32 | cmovNo16 | cmovNo32 | cmovB16 | cmovB32 | cmovAe16 | cmovAe32 | cmovE16 | cmovE32 |
    cmovNe16 | cmovNe32 | cmovBe16 | cmovBe32 | cmovA16 | cmovA32 | cmovS16 | cmovS32 | cmovNs16 | cmovNs32 |
    cmovP16 | cmovP32 | cmovNp16 | cmovNp32 | cmovL16 | cmovL32 | cmovGe16 | cmovGe32 | cmovLe16 | cmovLe32 |
    cmovG16 | cmovG32 => exact cmov_records s _ _ _
  | bsfR16Rm16 | bsfR32Rm32 | bsrR16Rm16 | bsrR32Rm32 => exact bitScan_records s _ _ _
  | btRm16R16 | btRm32R32 | btRm16Ib | btRm32Ib | btcRm16R16 | btcRm32R32 | btcRm16Ib | btcRm32Ib | btrRm16R16 |
    btrRm32R32 | btrRm16Ib | btrRm32Ib | btsRm16R16 | btsRm32R32 | btsRm16Ib | btsRm32Ib =>
    exact bitTest_records s _ _ _ _
  | cmpsb | cmpsw | cmpsd => exact cmps_records s _ _ _
  | cmpxchgRm8R8 | cmpxchgRm16R16 | cmpxchgRm32R32 => exact cmpxchg_records s _ _ _ _
  | boundR16 | boundR32 => exact bound_records s _ _
  | aaa | aas | aad | daa | das | cbw | cwde | cwd | cdq =>
    exact checkNat_records s ((recorded_self s).congr rfl rfl)
  | clc | cmc | cld => exact leads_next ((recorded_self s).congr rfl rfl)
  | cpuid => exact execCpuid_records s
  | aam imm => exact execAam_records s imm
  | arpl rm r => exact execArpl_records s rm r
  | bswap size r => exact execBswap_records s size r
  | cmpxchg8b lock m => exact execCmpxchg8b_records s lock m
  | callRel16 | callRel32 => exact .bind (trapFree_checkNat s _) fun _ _ => nearCall_records s _ _
  | callRm16 | callRm32 =>
    exact .bind (trapFree_checkNat s _) fun _ _ => .bind (trapFree_readOperand s _) fun _ _ =>
      nearCall_records s _ _
  | callPtr16 | callPtr32 => exact .bind (trapFree_checkNat s _) fun _ _ => farCall_records s _ _ _
  | callM16x16 | callM16x32 =>
    exact .bind (trapFree_checkNat s _) fun _ _ => .bind (trapFree_readFarPointer s _ _) fun _ _ =>
      farCall_records s _ _ _
  | cli => exact execCli_records s
  | clts => exact execClts_records s

end

/-- So does every step. -/
theorem stepsTo_recorded {s t : State} (h : Claims.StepsTo s t) : Recorded s t := by
  obtain ⟨i, next, u, -, hu, rfl⟩ := reaches_step h
  obtain ⟨hwf, hrising, hchanged⟩ := exec_records _ i u hu
  exact ⟨hwf, hrising, hchanged⟩

end Sys2Proof.Machine

section

open Sys2Proof Sys2Proof.Machine Sys2Proof.Claims

/-- Settles O11: every store keeps the canonical forms. -/
theorem everyStepKeepsMemoryCanonical : Obligations.EveryStepKeepsMemoryCanonical := by
  intro s t hwf hrising h
  have kept := stepsTo_recorded h
  exact ⟨kept.wf hwf, kept.rising hrising⟩

/-- Settles O14: every store is recorded, and CPUID, which empties the record, stores nothing. -/
theorem changedBytesAreRecorded : Obligations.ChangedBytesAreRecorded :=
  fun _ _ h => (stepsTo_recorded h).changed

end

/-! ### Fetching -/

namespace Sys2Proof.Machine

section
variable {s : State}

/-- Where a byte cannot be fetched, the window ends with the bytes before it and with its stop. -/
theorem fetchWindow_of_stop {bytes : List Byte} {e : Stop} {n k : Nat} (hn : bytes.length < n)
    (hb : ∀ (j : Nat) (b : Byte), bytes[j]? = some b → s.fetchByte (k + j) = .ok b)
    (he : s.fetchByte (k + bytes.length) = .error e) : s.fetchWindow n k = { bytes := bytes, stop := some e } := by
  induction bytes generalizing n k with
  | nil =>
    obtain ⟨n, rfl⟩ := Nat.exists_eq_succ_of_ne_zero (Nat.ne_of_gt hn)
    have he : s.fetchByte k = .error e := he
    simp [State.fetchWindow, he]
  | cons b bytes ih =>
    obtain ⟨n, rfl⟩ := Nat.exists_eq_succ_of_ne_zero (Nat.ne_of_gt (Nat.zero_lt_of_lt hn))
    have first : s.fetchByte k = .ok b := hb 0 b rfl
    have others : s.fetchWindow n (k + 1) = { bytes := bytes, stop := some e } :=
      ih (Nat.lt_of_succ_lt_succ hn) (fun j c hj => Nat.add_right_comm k 1 j ▸ hb (j + 1) c hj)
        (Nat.add_right_comm k 1 bytes.length ▸ he)
    simp [State.fetchWindow, first, others]

/-- The step at bytes that end too soon is the stop of the byte that could not be fetched. -/
theorem step_of_truncated {bytes : List Byte} {e : Stop} (hend : s.atEnd = false) (hfp : s.highFpFault = false)
    (hw : s.fetchWindow maxLength 0 = { bytes := bytes, stop := some e }) (hd : decode s.codeSize bytes = .truncated) :
    step s = toOutcome (.error e) := by
  simp [step, hend, hfp, State.fetchInstr, State.interpret, hw, hd]

variable {k a : Nat}

theorem fetchByte_beyond_limit (h : s.segs.cs.limit.toNat < (s.pc + BitVec.ofNat 32 k).toNat) :
    s.fetchByte k = .error s.gp0 := by
  simp [State.fetchByte, h, -BitVec.toNat_add]

section
variable (h : (s.pc + BitVec.ofNat 32 k).toNat ≤ s.segs.cs.limit.toNat)
include h

theorem fetchByte_of_untranslated {e : Stop} (ht : s.translate .fetch (s.codeLinear k) = .error e) :
    s.fetchByte k = .error e := by
  simp [State.fetchByte, Nat.not_lt.mpr h, ht, -BitVec.toNat_add]

theorem fetchByte_of_stored (ht : s.translate .fetch (s.codeLinear k) = .ok a) (ha : a ∈ s.stored) :
    s.fetchByte k = .error (.refused .modifiedCode) := by
  simp [State.fetchByte, Nat.not_lt.mpr h, ht, ha, -BitVec.toNat_add]

theorem fetchByte_eq_ok (ht : s.translate .fetch (s.codeLinear k) = .ok a) (ha : a ∉ s.stored) :
    s.fetchByte k = .ok (Memory.read s.mem a) := by
  simp [State.fetchByte, Nat.not_lt.mpr h, ht, ha, -BitVec.toNat_add]

end

end

end Sys2Proof.Machine

section

open Sys2Proof Sys2Proof.Machine Sys2Proof.Claims

/-- Settles O9: the window stops at byte `k`, for the first of the checks that it fails. -/
theorem fetchChecksLimitAndModifiedCode : Obligations.FetchChecksLimitAndModifiedCode := by
  rintro s _ bytes hend hfp hk rfl before hd
  have fetched (j : Nat) (b : Byte) (hj : bytes[j]? = some b) : s.fetchByte (0 + j) = .ok b := by
    obtain ⟨hlim, a, ht, ha, hb⟩ := before j (List.getElem?_eq_some_iff.mp hj).1
    rw [Nat.zero_add, fetchByte_eq_ok hlim ht ha, ← Option.some.inj (hj.symm.trans hb)]
  have stops {e : Stop} (he : s.fetchByte bytes.length = .error e) : step s = toOutcome (.error e) :=
    step_of_truncated hend hfp (fetchWindow_of_stop hk fetched (by rwa [Nat.zero_add])) hd
  exact ⟨fun hlim => stops (fetchByte_beyond_limit hlim), fun hlim =>
    ⟨fun f ht => stops (fetchByte_of_untranslated hlim ht), fun a ht ha => stops (fetchByte_of_stored hlim ht ha)⟩⟩

end

/-! ### Translation (20_memory.md R100) -/

namespace Sys2Proof.Machine

open Sys2Proof.Claims

section
variable {s : State} {kind : AccessKind} {page : Nat}

theorem find_of_firstEntry {e : PageEntry} (h : FirstEntry s e) :
    (s.cfg.pages.find? fun x => x.page == e.page) = some e := by
  obtain ⟨before, after, hpages, hbefore⟩ := h
  have absent : (before.find? fun x => x.page == e.page) = none :=
    List.find?_eq_none.mpr fun x hx => by simpa using hbefore x hx
  simp [hpages, List.find?_append, absent]

/-- The model's lookup in the oracle gives the answer that the statements name. -/
theorem pageAnswer_of_oracleAnswers {r : PageResult ItaniumFault} (h : OracleAnswers s kind page r) :
    s.pageAnswer kind page = r := by
  cases h with
  | unlisted _ _ h =>
    have absent : (s.cfg.pages.find? fun x => x.page == page) = none :=
      List.find?_eq_none.mpr fun x hx => by simpa using h x hx
    simp [State.pageAnswer, absent]
  | fetch e h =>
    simp only [State.pageAnswer, find_of_firstEntry h]
    cases e.fetch <;> rfl
  | read e h =>
    simp only [State.pageAnswer, find_of_firstEntry h]
    cases e.read <;> rfl
  | write e h =>
    simp only [State.pageAnswer, find_of_firstEntry h]
    cases e.write <;> rfl

theorem mapHolds_iff_covered {p : Nat} : mapHolds s.cfg.memory p = true ↔ Covered s p := by
  unfold mapHolds Covered
  cases s.cfg.memory.populated <;> simp

theorem coveredAnswer_of_faults {f : ItaniumFault} (h : TranslationFaults s kind page f) :
    s.coveredAnswer kind page = .fault f := by
  cases h with
  | oracle _ h => simp [State.coveredAnswer, pageAnswer_of_oracleAnswers h]
  | uncovered p h empty =>
    have uncovered : mapHolds s.cfg.memory p = false := by
      rwa [← Bool.not_eq_true, mapHolds_iff_covered]
    simp only [State.coveredAnswer, pageAnswer_of_oracleAnswers h, uncovered]
    cases kind <;> rfl

/-- The bytes of an access translate one by one. -/
theorem translateAll_eq_ok {l : List DWord} {p : List Nat} :
    s.translateAll kind l = .ok p ↔
      p.length = l.length ∧ ∀ (j : Nat) (la : DWord), l[j]? = some la →
        ∃ x, p[j]? = some x ∧ s.translate kind la = .ok x := by
  induction l generalizing p with
  | nil => simp [State.translateAll, eq_comm]
  | cons la l ih =>
    simp only [State.translateAll, bind_eq_ok, pure_eq, Except.ok.injEq]
    constructor
    · rintro ⟨x, hx, xs, hxs, rfl⟩
      obtain ⟨hlen, hall⟩ := ih.mp hxs
      refine ⟨by simp [hlen], fun j => ?_⟩
      cases j with
      | zero => simp [hx]
      | succ j => simpa using hall j
    · rintro ⟨hlen, hall⟩
      cases p with
      | nil => simp at hlen
      | cons x xs =>
        have first : s.translate kind la = .ok x := by simpa using hall 0 la
        exact ⟨x, first, xs, ih.mpr ⟨by simpa using hlen, fun j => by simpa using hall (j + 1)⟩, rfl⟩

/-- The first byte without a translation decides. -/
theorem translateAll_eq_error {l : List DWord} {j : Nat} {la : DWord} {e : Stop} (hj : l[j]? = some la)
    (before : ∀ (i : Nat) (la' : DWord), i < j → l[i]? = some la' → ∃ x, s.translate kind la' = .ok x)
    (he : s.translate kind la = .error e) : s.translateAll kind l = .error e := by
  induction l generalizing j with
  | nil => simp at hj
  | cons la' l ih =>
    cases j with
    | zero =>
      obtain rfl : la' = la := by simpa using hj
      simp [State.translateAll, he]
    | succ j =>
      obtain ⟨x, hx⟩ := before 0 la' (Nat.succ_pos j) rfl
      have rest : s.translateAll kind l = .error e :=
        ih (by simpa using hj) fun i la'' hi h => before (i + 1) la'' (Nat.succ_lt_succ hi) (by simpa using h)
      simp [State.translateAll, hx, rest]

end

/-! ### Effective addresses (30_encoding.md R124 to R126) -/

section
variable (s : State)

theorem reg16_toNat (r : Reg) : (s.reg16 r).toNat = (s.reg32 r).toNat % 2 ^ 16 := by
  simp [State.reg16, State.reg32]

theorem wrap_s16_toNat (off : DWord) : (OpSize.s16.wrap off).toNat = off.toNat % 2 ^ 16 := by
  simp [OpSize.wrap]
  omega

theorem base16Opt_toNat (b : Option Base16) :
    (s.base16Opt b).toNat = ((addends b).map fun r => (s.reg32 r).toNat % 2 ^ 16).sum % 2 ^ 16 := by
  cases b with
  | none => rfl
  | some b => cases b <;> simp [State.base16Opt, State.base16, addends, reg16_toNat]

theorem offset_a16_toNat (b : Option Base16) (disp : Word) :
    (s.offset (.a16 b disp)).toNat =
      (((addends b).map fun r => (s.reg32 r).toNat % 2 ^ 16).sum + disp.toNat) % 2 ^ 16 := by
  have small := (s.base16Opt b + disp).isLt
  rw [State.offset, BitVec.toNat_setWidth, Nat.mod_eq_of_lt (by omega), BitVec.toNat_add, base16Opt_toNat,
    Nat.mod_add_mod]

theorem baseOpt_toNat (b : Option Reg) : (s.baseOpt b).toNat = b.elim 0 fun r => (s.reg32 r).toNat := by
  cases b <;> rfl

theorem indexOpt_toNat (x : Option (Reg × BitVec 2)) :
    (s.indexOpt x).toNat = (x.elim 0 fun i => (s.reg32 i.1).toNat * 2 ^ i.2.toNat) % 2 ^ 32 := by
  cases x with
  | none => rfl
  | some i => simp [State.indexOpt, Nat.shiftLeft_eq]

theorem offset_a32_toNat (b : Option Reg) (x : Option (Reg × BitVec 2)) (disp : DWord) :
    (s.offset (.a32 b x disp)).toNat =
      ((b.elim 0 fun r => (s.reg32 r).toNat) + (x.elim 0 fun i => (s.reg32 i.1).toNat * 2 ^ i.2.toNat) + disp.toNat) %
        2 ^ 32 := by
  rw [State.offset, BitVec.toNat_add, BitVec.toNat_add, baseOpt_toNat, indexOpt_toNat, Nat.add_mod_mod,
    Nat.mod_add_mod]

end

/-! ### The checks of a segment-relative access (20_memory.md R88 to R95) -/

section
variable {s : State} {r : SegReg} {g : Segment} {a : OpSize} {off : DWord} {kind : AccessKind} {items : List Nat}

theorem nullSegment_eq_false : s.nullSegment r = false ↔ NotNull s r := by
  unfold State.nullSegment NotNull nullSelector
  cases s.protectedMode <;> cases s.itaniumSE <;> cases r <;> simp

/-- Of all the bytes of an access the first and the last decide. -/
theorem inLimit_iff_within {n : Nat} (h : 0 < n) : g.inLimit off n = true ↔ Within g off n := by
  unfold Within Segment.inLimit
  cases hd : g.expandDown && !g.executable with
  | true =>
    have down : g.expandDown = true ∧ g.executable = false := by simpa using hd
    have top : (if g.big then 2 ^ 32 else 2 ^ 16) = (if g.big = true then 0xFFFFFFFF else 0xFFFF) + 1 := by
      cases g.big <;> rfl
    simp only [if_true, if_pos down, top, Bool.and_eq_true, decide_eq_true_eq]
    constructor
    · rintro ⟨low, high⟩ k hk
      omega
    · intro all
      have first := all 0 h
      have last := all (n - 1) (by omega)
      omega
  | false =>
    have up : ¬(g.expandDown = true ∧ g.executable = false) := by simpa using hd
    simp only [Bool.false_eq_true, if_false, if_neg up, decide_eq_true_eq]
    constructor
    · intro high k hk
      omega
    · intro all
      have last := all (n - 1) (by omega)
      omega

theorem deniedAccess_eq_false : s.deniedAccess g kind = false ↔ Permitted s g kind := by
  unfold State.deniedAccess Permitted Segment.mayWrite Segment.mayRead
  cases s.protectedMode <;> cases kind <;> simp

/-- The model's linear address of a byte is the one of the statements. -/
theorem linear_eq_byteAddress (k : Nat) : g.linear a off k = byteAddress g a off k := by
  cases a <;> rfl

theorem linears_length (n : Nat) : (g.linears a off n).length = n := by
  simp [Segment.linears]

theorem linears_getElem? {n j : Nat} (h : j < n) : (g.linears a off n)[j]? = some (byteAddress g a off j) := by
  simp [Segment.linears, h, linear_eq_byteAddress]

theorem forall_linears {n : Nat} {P : Nat → DWord → Prop} :
    (∀ (j : Nat) (la : DWord), (g.linears a off n)[j]? = some la → P j la) ↔ ∀ j < n, P j (byteAddress g a off j) := by
  constructor
  · exact fun h j hj => h j _ (linears_getElem? hj)
  · intro h j la hla
    have hj : j < n := by simpa [linears_length] using (List.getElem?_eq_some_iff.mp hla).1
    obtain rfl : byteAddress g a off j = la := Option.some.inj ((linears_getElem? hj).symm.trans hla)
    exact h j hj

/-- One item's alignment check. -/
theorem misaligned_eq_false {k n : Nat} :
    (s.acEnabled && s.cpl == 3 && (g.linear a off k).toNat % n != 0) = false ↔ Aligned s g a off k n := by
  rw [linear_eq_byteAddress]
  unfold State.acEnabled Aligned
  cases s.cr0.am <;> cases s.flags.ac <;> simp

theorem checkAlignment_eq_ok {k : Nat} :
    s.checkAlignment g a off kind k items = .ok () ↔
      ∀ (j n : Nat), items[j]? = some n → Aligned s g a off (k + (items.take j).sum) n := by
  induction items generalizing k with
  | nil => simp [State.checkAlignment]
  | cons m items ih =>
    simp only [State.checkAlignment, bind_eq_ok, stopIf_eq_ok, misaligned_eq_false, exists_const, ih]
    constructor
    · rintro ⟨first, others⟩ j n hj
      cases j with
      | zero =>
        obtain rfl : m = n := by simpa using hj
        simpa using first
      | succ j => simpa [Nat.add_assoc] using others j n (by simpa using hj)
    · intro all
      exact ⟨by simpa using all 0 m rfl, fun j n hj => by simpa [Nat.add_assoc] using all (j + 1) n (by simpa using hj)⟩

/-- The first item that is not aligned decides. -/
theorem checkAlignment_eq_error {k j n : Nat} (hj : items[j]? = some n)
    (before : ∀ (i m : Nat), i < j → items[i]? = some m → Aligned s g a off (k + (items.take i).sum) m)
    (h : ¬Aligned s g a off (k + (items.take j).sum) n) :
    s.checkAlignment g a off kind k items = .error (s.raiseCode .ac 0
      (some { la := byteAddress g a off (k + (items.take j).sum), kind := kind })) := by
  induction items generalizing k j with
  | nil => simp at hj
  | cons m items ih =>
    rw [State.checkAlignment]
    cases j with
    | zero =>
      obtain rfl : m = n := by simpa using hj
      have misaligned : (s.acEnabled && s.cpl == 3 && (g.linear a off k).toNat % m != 0) = true := by
        rw [← Bool.not_eq_false, misaligned_eq_false]
        simpa using h
      rw [misaligned, linear_eq_byteAddress]
      simp
    | succ j =>
      have first : (s.acEnabled && s.cpl == 3 && (g.linear a off k).toNat % m != 0) = false :=
        misaligned_eq_false.mpr (by simpa using before 0 m (Nat.succ_pos j) rfl)
      have others := ih (k := k + m) (j := j) (by simpa using hj)
        (fun i m' hi hm => by simpa [Nat.add_assoc] using before (i + 1) m' (Nat.succ_lt_succ hi) (by simpa using hm))
        (by simpa [Nat.add_assoc] using h)
      rw [first, stopIf_false, ok_bind, others]
      simp [Nat.add_assoc]

theorem segAccess_null (h : ¬NotNull s r) : s.segAccess r a off items kind = .error s.gp0 := by
  have null : s.nullSegment r = true := by rwa [← Bool.not_eq_false, nullSegment_eq_false]
  simp [State.segAccess, null]

variable (hnull : NotNull s r)
include hnull

theorem segAccess_beyond_limit (hn : 0 < items.sum) (h : ¬Within (s.seg r) off items.sum) :
    s.segAccess r a off items kind = .error (s.limitStop r) := by
  have beyond : (s.seg r).inLimit off items.sum = false := by
    rwa [← Bool.not_eq_true, inLimit_iff_within hn]
  simp [State.segAccess, nullSegment_eq_false.mpr hnull, beyond]

variable (hn : 0 < items.sum) (hlimit : Within (s.seg r) off items.sum)
include hn hlimit

theorem segAccess_denied (h : ¬Permitted s (s.seg r) kind) : s.segAccess r a off items kind = .error s.gp0 := by
  have denied : s.deniedAccess (s.seg r) kind = true := by rwa [← Bool.not_eq_false, deniedAccess_eq_false]
  simp [State.segAccess, nullSegment_eq_false.mpr hnull, (inLimit_iff_within hn).mpr hlimit, denied]

/-- An access that passes the checks of its segment is decided by alignment, then by translation. -/
theorem segAccess_of_permitted (h : Permitted s (s.seg r) kind) :
    s.segAccess r a off items kind = (do
      s.checkAlignment (s.seg r) a off kind 0 items
      s.translateAll kind ((s.seg r).linears a off items.sum)) := by
  simp [State.segAccess, nullSegment_eq_false.mpr hnull, (inLimit_iff_within hn).mpr hlimit,
    deniedAccess_eq_false.mpr h]

end

theorem limitStop_eq (s : State) (r : SegReg) :
    s.limitStop r = s.raiseCode (if r = .ss then .ss else .gp) 0 := by
  cases r <;> rfl

end Sys2Proof.Machine

section

open Sys2Proof Sys2Proof.Machine Sys2Proof.Claims

/-- Settles O20: each check of an access says what the statement spells out. -/
theorem segmentAccessPermitted : Obligations.SegmentAccessPermitted := by
  refine ⟨fun s kind la p ho hc => ?_, offset_a16_toNat, offset_a32_toNat, fun s m items kind => ?_, fun s => rfl,
    fun off => ⟨wrap_s16_toNat off, rfl⟩, fun s r a off items kind p hn => ?_⟩
  · have answer : s.coveredAnswer kind (pageOf s la) = .frame p :=
      State.coveredAnswer_eq_frame.mpr ⟨pageAnswer_of_oracleAnswers ho, mapHolds_iff_covered.mpr hc⟩
    exact State.translate_eq_ok.mpr (.inl ⟨p, answer, rfl⟩)
  · obtain ⟨seg, ea⟩ := m
    cases ea <;> rfl
  · rw [State.segAccess_eq_ok, nullSegment_eq_false, inLimit_iff_within hn, deniedAccess_eq_false,
      checkAlignment_eq_ok, translateAll_eq_ok, linears_length, forall_linears]
    simp only [Nat.zero_add]

/-- Settles O21: the first check that fails decides. -/
theorem segmentAccessFaultOrder : Obligations.SegmentAccessFaultOrder := by
  constructor
  · intro s kind la f h
    have answer := coveredAnswer_of_faults h
    unfold pageOf at answer
    simp only [State.translate, answer]
    rfl
  · intro s r a off items kind hn g code raises aligned
    refine ⟨segAccess_null, fun hnull hlimit => ?_, fun hnull hlimit => segAccess_denied hnull hn hlimit,
      fun hnull hlimit hperm => ⟨fun k n hk before hna => ?_, fun hal k hk before e he => ?_⟩⟩
    · exact (segAccess_beyond_limit hnull hn hlimit).trans (by rw [limitStop_eq]; rfl)
    · have misaligned := checkAlignment_eq_error (kind := kind) (k := 0) hk
        (fun i m hi hm => by simpa using before i m hi hm) (by simpa using hna)
      show s.segAccess r a off items kind = _
      rw [segAccess_of_permitted hnull hn hlimit hperm, misaligned, Nat.zero_add]
      rfl
    · have passed := checkAlignment_eq_ok (kind := kind) (k := 0).mpr fun j n hj => by simpa using hal j n hj
      show s.segAccess r a off items kind = _
      rw [segAccess_of_permitted hnull hn hlimit hperm, passed, ok_bind]
      refine translateAll_eq_error (linears_getElem? hk) (fun i la hi hla => ?_) he
      obtain rfl : byteAddress g a off i = la :=
        Option.some.inj ((linears_getElem? (hi.trans hk)).symm.trans hla)
      exact before i hi

end

/-! ### Memory is little-endian (20_memory.md R85) -/

namespace Sys2Proof.Machine

open Sys2Proof.Claims

theorem leNat_lt (l : List Byte) : leNat l < 256 ^ l.length := by
  induction l with
  | nil => exact Nat.one_pos
  | cons b l ih =>
    have hb : b.toNat < 256 := b.isLt
    rw [leNat, List.length_cons, Nat.pow_succ]
    omega

theorem leNat_byte {l : List Byte} {k : Nat} {b : Byte} (h : l[k]? = some b) :
    leNat l / 256 ^ k % 256 = b.toNat := by
  induction l generalizing k with
  | nil => simp at h
  | cons c l ih =>
    have hc : c.toNat < 256 := c.isLt
    cases k with
    | zero =>
      obtain rfl : c = b := by simpa using h
      rw [leNat, Nat.pow_zero]
      omega
    | succ k =>
      have tail : leNat (c :: l) / 256 = leNat l := by
        rw [leNat]
        omega
      rw [Nat.pow_succ', ← Nat.div_div_eq_div_mul, tail]
      exact ih (by simpa using h)

theorem leNat_take (l : List Byte) (n : Nat) : leNat (l.take n) = leNat l % 256 ^ n := by
  induction l generalizing n with
  | nil => simp [leNat]
  | cons b l ih =>
    have hb : b.toNat < 256 := b.isLt
    cases n with
    | zero => simp [leNat, Nat.mod_one]
    | succ n =>
      have low : (b.toNat + 256 * leNat l) % 256 = b.toNat := by omega
      have high : (b.toNat + 256 * leNat l) / 256 = leNat l := by omega
      rw [List.take_succ_cons, leNat, leNat, ih, Nat.pow_succ', Nat.mod_mul, low, high]

theorem two_pow_eq {w n : Nat} (hw : w = 8 * n) : 2 ^ w = 256 ^ n := by
  rw [hw, Nat.pow_mul]

section
variable (s : State) {w : Nat} (addrs : List Nat)

/-- Each byte of a loaded value is the one at its address. -/
theorem load_byte {k a : Nat} (hw : w = 8 * addrs.length) (h : addrs[k]? = some a) :
    (s.load w addrs).extractLsb' (8 * k) 8 = Memory.read s.mem a := by
  have fits : leNat (addrs.map fun a => Memory.read s.mem a) < 2 ^ w := by
    simpa [two_pow_eq hw] using leNat_lt (addrs.map fun a => Memory.read s.mem a)
  apply BitVec.eq_of_toNat_eq
  rw [BitVec.extractLsb'_toNat, State.load, BitVec.toNat_ofNat, Nat.mod_eq_of_lt fits, Nat.shiftRight_eq_div_pow,
    Nat.pow_mul]
  exact leNat_byte (by simp [h])

variable (v : BitVec w)

/-- Each byte of a stored value is at its address; where two of the addresses are one, the later byte stands. -/
theorem store_holds : Holds addrs v (s.store addrs v) := by
  induction addrs generalizing s v with
  | nil => simp [Holds]
  | cons b l ih =>
    intro k a hk hlater
    cases k with
    | zero =>
      obtain rfl : b = a := by simpa using hk
      have hb : b ∉ l := by simpa using hlater
      rw [State.store, State.store_read_other _ _ _ _ hb, State.storeByte_mem, Memory.read_write_same]
      simp [BitVec.extractLsb']
    | succ k =>
      rw [State.store, ih (s.storeByte b (v.setWidth 8)) (v >>> 8) k a (by simpa using hk) (by simpa using hlater)]
      apply BitVec.eq_of_getLsbD_eq
      intro i hi
      simp [show 8 + (8 * k + i) = 8 * (k + 1) + i by omega]

theorem store_storedAt : StoredAt addrs v s (s.store addrs v) :=
  ⟨store_holds s addrs v, State.store_read_other s addrs v, State.mem_store_stored s addrs v⟩

/-- Loading from the first of the addresses that a value was stored at gives its low bytes. -/
theorem load_take_store (hw : w = 8 * addrs.length) (h : addrs.Nodup) (n : Nat) :
    (s.store addrs v).load (8 * n) (addrs.take n) = v.extractLsb' 0 (8 * n) := by
  have fits : v.toNat < 256 ^ addrs.length := by
    rw [← two_pow_eq hw]
    exact v.isLt
  apply BitVec.eq_of_toNat_eq
  rw [State.load, List.map_take, leNat_take, State.leNat_store _ _ _ h, Nat.mod_eq_of_lt fits, BitVec.toNat_ofNat,
    BitVec.extractLsb'_toNat, Nat.pow_mul, Nat.mod_mod, Nat.shiftRight_zero]

end

theorem peek_r8_of_byteRegisters (s : State) (addrs : List Nat) :
    ∀ b ∈ byteRegisters, s.peek (.r8 b.1) addrs = (s.reg32 b.2.1).extractLsb' b.2.2 8 := by
  simp only [byteRegisters, List.forall_mem_cons]
  exact ⟨rfl, rfl, rfl, rfl, rfl, rfl, rfl, rfl, by simp⟩

end Sys2Proof.Machine

section

open Sys2Proof Sys2Proof.Machine Sys2Proof.Claims

/-- Settles O22: the bytes of a load, and those of a store. -/
theorem storedValuesAreReadBack : Obligations.StoredValuesAreReadBack := by
  refine ⟨fun s => rfl, fun s addrs => ⟨fun r => ⟨rfl, rfl⟩, peek_r8_of_byteRegisters s addrs, fun w m => rfl,
    fun w v p => ⟨rfl, rfl⟩⟩, fun s w v addrs hw => ⟨fun k a => load_byte s addrs hw, fun hnodup => ?_⟩⟩
  exact ⟨store_storedAt s addrs v, State.load_store s addrs v hnodup (Nat.le_of_eq hw),
    fun n _ => load_take_store s addrs v hw hnodup n⟩

end

/-! ### The lock intercept (20_memory.md R106) -/

namespace Sys2Proof.Machine

open Sys2Proof.Claims

/-- Whether a stop is an intercept. -/
def Stop.isIntercept : Stop → Bool
  | .fault (.intercept _ _) => true
  | .fault (.exception _ _ _ _) => false
  | .fault (.itanium _ _ _) => false
  | .fault (.debugTrap _) => false
  | .fault (.systemFlagTrap _) => false
  | .fault .runEnded => false
  | .refused _ => false

/-- A computation that ends in no intercept. -/
def InterceptFree {α : Type} (x : Result α) : Prop := ∀ e, x = .error e → e.isIntercept = false

@[simp] theorem interceptFree_ok {α : Type} (a : α) : InterceptFree (.ok a : Result α) := by
  intro e h
  cases h

@[simp] theorem interceptFree_error {α : Type} (e : Stop) :
    InterceptFree (.error e : Result α) ↔ e.isIntercept = false := by
  simp [InterceptFree]

theorem InterceptFree.bind {α β : Type} {x : Result α} {f : α → Result β} (hx : InterceptFree x)
    (hf : ∀ a, InterceptFree (f a)) : InterceptFree (x >>= f) := by
  intro e h
  rcases bind_eq_error.mp h with h | ⟨a, -, h⟩
  · exact hx e h
  · exact hf a e h

theorem interceptFree_stopIf (c : Bool) {e : Stop} (h : e.isIntercept = false) : InterceptFree (stopIf c e) := by
  cases c <;> simp [h]

section
variable (s : State)

theorem interceptFree_translate (k : AccessKind) (la : DWord) : InterceptFree (s.translate k la) := by
  unfold State.translate
  split
  · exact interceptFree_ok _
  · split
    · exact (interceptFree_error _).mpr rfl
    · split
      · exact interceptFree_ok _
      · exact (interceptFree_error _).mpr rfl

theorem interceptFree_translateAll (k : AccessKind) (l : List DWord) : InterceptFree (s.translateAll k l) := by
  induction l with
  | nil => exact interceptFree_ok _
  | cons la l ih => exact .bind (interceptFree_translate s k la) fun _ => .bind ih fun _ => interceptFree_ok _

theorem interceptFree_checkAlignment (g : Segment) (a : OpSize) (off : DWord) (kind : AccessKind) (k : Nat)
    (items : List Nat) : InterceptFree (s.checkAlignment g a off kind k items) := by
  induction items generalizing k with
  | nil => exact interceptFree_ok _
  | cons n items ih => exact .bind (interceptFree_stopIf _ rfl) fun _ => ih _

theorem interceptFree_segAccess (r : SegReg) (a : OpSize) (off : DWord) (items : List Nat) (kind : AccessKind) :
    InterceptFree (s.segAccess r a off items kind) :=
  .bind (interceptFree_stopIf _ rfl) fun _ => .bind (interceptFree_stopIf _ (by cases r <;> rfl)) fun _ =>
    .bind (interceptFree_stopIf _ rfl) fun _ => .bind (interceptFree_checkAlignment s _ _ _ _ _ _) fun _ =>
      interceptFree_translateAll s _ _

theorem interceptFree_openPlace {w : Nat} (p : Place w) (kind : AccessKind) :
    InterceptFree (s.openPlace p kind) := by
  cases p with
  | r8 r => exact interceptFree_ok _
  | r16 r => exact interceptFree_ok _
  | r32 r => exact interceptFree_ok _
  | mem m => exact interceptFree_segAccess s _ _ _ _ kind

theorem interceptFree_readOperand {w : Nat} (o : Operand w) : InterceptFree (s.readOperand o) := by
  cases o with
  | imm v => exact interceptFree_ok _
  | place p => exact .bind (interceptFree_openPlace s p .read) fun _ => interceptFree_ok _

end

/-- Where the NaT bits allow the instruction and what follows the lock check ends in no intercept, the instruction ends
in the lock intercept exactly when the check says so. -/
theorem lockIntercept_iff {s : State} {rs : List Reg} {op : LockOp} {c : Bool} {rest : Unit → Result State}
    (hr : Readable s rs) (hrest : InterceptFree (rest ())) :
    toOutcome (s.checkNat rs >>= fun _ => stopIf c (s.raiseIntercept (.lock op)) >>= rest) =
      .fault (.intercept (.lock op) s.pc) ↔ c = true := by
  have nat : s.checkNat rs = .ok () := State.checkNat_eq_ok.mpr hr
  rw [nat, ok_bind, toOutcome_eq_fault]
  cases c with
  | true => simp [State.raiseIntercept]
  | false =>
    rw [stopIf_false, ok_bind]
    exact ⟨fun h => absurd (hrest _ h) (by simp [Stop.isIntercept]), fun h => by cases h⟩

/-! ### The forms that LOCK may stand before, by the operation that gives them their meaning -/

section
variable {lock : Bool} {w : Nat} {i : Instr} (s : State)

theorem exec_of_adcForm {dst : Place w} {src : Operand w} (h : AluForm adcForms lock dst src i) :
    exec i s = alu .adc lock dst src s := by
  cases h <;> rfl

theorem exec_of_addForm {dst : Place w} {src : Operand w} (h : AluForm addForms lock dst src i) :
    exec i s = alu .add lock dst src s := by
  cases h <;> rfl

theorem exec_of_andForm {dst : Place w} {src : Operand w} (h : AluForm andForms lock dst src i) :
    exec i s = alu .and lock dst src s := by
  cases h <;> rfl

/-- The operation of a lockable row of ADC, ADD or AND. -/
theorem exec_of_aluForm {f : AluForms} {op : LockOp} {dst : Place w} {src : Operand w}
    (hf : (f, op) ∈ [(adcForms, LockOp.adc), (addForms, .add), (andForms, .and)]) (h : AluForm f lock dst src i) :
    ∃ o, aluLock o = op ∧ exec i s = alu o lock dst src s := by
  simp only [List.mem_cons, List.not_mem_nil, or_false, Prod.mk.injEq] at hf
  rcases hf with ⟨rfl, rfl⟩ | ⟨rfl, rfl⟩ | ⟨rfl, rfl⟩
  · exact ⟨.adc, rfl, exec_of_adcForm s h⟩
  · exact ⟨.add, rfl, exec_of_addForm s h⟩
  · exact ⟨.and, rfl, exec_of_andForm s h⟩

theorem exec_of_decForm {dst : Place w} (h : DecForm lock dst i) : exec i s = dec lock dst s := by
  cases h <;> rfl

theorem exec_of_bitForm {op : BitOp} {base : Place w} {off : Operand w} (h : BitForm op lock base off i) :
    exec i s = bitTest op lock base off s := by
  cases h <;> rfl

theorem exec_of_cmpxchgForm {acc dst src : Place w} (h : CmpxchgForm lock acc dst src i) :
    exec i s = cmpxchg lock acc dst src s := by
  cases h <;> rfl

end

/-! ### The point that the lock check asks about -/

section
variable (s : State) (op : LockOp) (m : MemOp)

theorem lockIntercepts_iff (la : DWord) (n : Nat) :
    s.lockIntercepts op la n = true ↔
      s.itaniumSE = true ∧ s.dcrLc = true ∧ { op := op, la := la, bytes := n } ∈ s.cfg.lockRequired ∧
        (op ∈ [LockOp.cmpxchg, .cmpxchg8b] ∨ s.cfg.lockInterceptAll = true) := by
  simp [State.lockIntercepts, and_assoc, or_assoc]

theorem linear_zero (g : Segment) (a : OpSize) (off : DWord) : g.linear a off 0 = g.base + a.wrap off := by
  cases a <;> simp [Segment.linear, byteOffset, OpSize.wrap]

theorem wrap_wrap (a : OpSize) (off : DWord) : a.wrap (a.wrap off) = a.wrap off := by
  cases a with
  | s16 =>
    apply BitVec.eq_of_toNat_eq
    simp [OpSize.wrap]
  | s32 => rfl

/-- Where a bit test makes its access, and its width, are what the statements spell out. -/
theorem bitSite_eq {w : Nat} (v : BitVec w) :
    (bitSite w s.bitWide m.ea.addrSize (s.offset m.ea) v.toInt).off = bitAccess s m v ∧
      (bitSite w s.bitWide m.ea.addrSize (s.offset m.ea) v.toInt).bytes = if s.bitWide then w / 8 else 1 := by
  cases h : s.bitWide <;> simp [bitSite, bitAccess, h]

/-- A locked bit test of memory, with its lock check written out. -/
theorem bitTest_mem {op : BitOp} {name : LockOp} {w : Nat} {off : Operand w}
    (h : (op, name) ∈ [(BitOp.btc, LockOp.btc), (.btr, .btr), (.bts, .bts)]) :
    let site := bitSite w s.bitWide m.ea.addrSize (s.offset m.ea) (s.operand off []).toInt
    bitTest op true (.mem m) off s = toOutcome do
      s.checkNat (m.ea.regs ++ off.regs)
      stopIf (s.lockIntercepts name ((s.seg m.seg).linear m.ea.addrSize site.off 0) site.bytes)
        (s.raiseIntercept (.lock name))
      let addrs ← s.segAccess m.seg m.ea.addrSize site.off [site.bytes] op.kind
      let v : BitVec w := s.load w addrs
      return (((s.setStatus { freeStatus s.fresh with cf := v.getLsbD site.bit }).drew 1).pokeBit op (.mem m) addrs
        (setBit v site.bit (op.newBit (v.getLsbD site.bit)))).advance := by
  intro site
  have lockCheck : s.checkBitLock op true m site.off site.bytes =
      stopIf (s.lockIntercepts name ((s.seg m.seg).linear m.ea.addrSize site.off 0) site.bytes)
        (s.raiseIntercept (.lock name)) := by
    simp only [List.mem_cons, List.not_mem_nil, or_false, Prod.mk.injEq] at h
    rcases h with ⟨rfl, rfl⟩ | ⟨rfl, rfl⟩ | ⟨rfl, rfl⟩ <;> rfl
  rw [← lockCheck]
  simp only [bitTest, State.openBit, bind_assoc, pure_bind]
  rfl

/-- The point of a bit test. -/
theorem linear_bitAccess {w : Nat} (v : BitVec w) :
    (s.seg m.seg).linear m.ea.addrSize (bitAccess s m v) 0 = (s.seg m.seg).base + bitAccess s m v := by
  rw [linear_zero, bitAccess, wrap_wrap]

end

end Sys2Proof.Machine

section

open Sys2Proof Sys2Proof.Machine Sys2Proof.Claims

/-- Settles O30: each form checks its NaT bits, then the lock intercept, and nothing after that ends in an intercept. -/
theorem lockInterceptComesBeforeTheAccess : Obligations.LockInterceptComesBeforeTheAccess := by
  intro s op regs la n i form hr
  rw [← lockIntercepts_iff]
  cases form with
  | alu f op h m src i form =>
    obtain ⟨o, rfl, hexec⟩ := exec_of_aluForm s h form
    rw [hexec, ← linear_zero]
    exact lockIntercept_iff hr <| .bind (interceptFree_openPlace s _ _) fun _ =>
      .bind (interceptFree_readOperand s _) fun _ => interceptFree_ok _
  | dec m i form =>
    rw [exec_of_decForm s form, ← linear_zero]
    exact lockIntercept_iff hr <| .bind (interceptFree_openPlace s _ _) fun _ => interceptFree_ok _
  | bit op name h m off i form =>
    obtain ⟨hoff, hbytes⟩ := bitSite_eq s m (s.operand off [])
    rw [exec_of_bitForm s form, ← linear_bitAccess, ← hoff, ← hbytes, bitTest_mem s m h]
    exact lockIntercept_iff hr <| .bind (interceptFree_segAccess s _ _ _ _ _) fun _ => interceptFree_ok _
  | cmpxchg m acc src i form =>
    rw [exec_of_cmpxchgForm s form, ← linear_zero]
    exact lockIntercept_iff hr <| .bind (interceptFree_openPlace s _ _) fun _ => interceptFree_ok _
  | cmpxchg8b m =>
    rw [← linear_zero]
    exact lockIntercept_iff hr <| .bind (interceptFree_segAccess s _ _ _ _ _) fun _ => interceptFree_ok _

end

/-! ### Decoding what the encoder writes

The decoder reads an encoding's prefixes into the context that the instruction needs, then its opcode, its ModR/M
operand and its immediate. One LOCK too many changes one thing: the `lock` field of the instruction read. -/

namespace Sys2Proof

/-! #### Prefixes (30_encoding.md R132) -/

theorem Prefixes.lock_of_add {p p' : Prefixes} {b : Byte} (h : p.add b = some p') (hl : p.lock = true) :
    p'.lock = true := by
  unfold Prefixes.add at h
  split at h <;> cases h <;> simp [hl]

theorem scanPrefixes_lock {p : Prefixes} (h : p.lock = true) (bs : List Byte) : (scanPrefixes p bs).1.lock = true := by
  induction bs generalizing p with
  | nil => exact h
  | cons b bs ih =>
    rw [scanPrefixes]
    split
    · next p' hp => exact ih (Prefixes.lock_of_add hp h)
    · exact h

/-- What decodes with LOCK among the prefixes carries the lock and is legal (20_memory.md R107). -/
theorem locked_of_checkLock {c : Ctx} {x : Parse Instr} {i : Instr} {rest : List Byte} (hc : c.lock = true)
    (h : x.bind (checkLock c) = .done i rest) : i.locked = true ∧ i.wellFormed = true := by
  cases x with
  | done j bs =>
    simp only [Parse.bind, checkLock, hc, true_and] at h
    split at h
    · cases h
    · next legal =>
      cases h
      exact not_not.mp legal
  | truncated | undefined | outOfScope | rep => cases h

theorem locked_of_decode {d : OpSize} {bs rest : List Byte} {i : Instr} (h : decode d (0xF0 :: bs) = .done i rest) :
    i.locked = true ∧ i.wellFormed = true := by
  have lock : (scanPrefixes Prefixes.none (0xF0 :: bs)).1.lock = true :=
    scanPrefixes_lock (p := { Prefixes.none with lock := true }) rfl bs
  unfold decode at h
  dsimp only at h
  split at h
  · cases h
  · exact locked_of_checkLock lock h

/-- Whether a size has to be written (30_encoding.md R130). -/
def sizeDiffers (d : OpSize) (size : Option OpSize) : Bool := size.any fun z => decide (z ≠ d)

theorem selected_size (d : OpSize) (size : Option OpSize) :
    (if sizeDiffers d size then d.other else d) = size.getD d := by
  cases size with
  | none => rfl
  | some z => cases d <;> cases z <;> rfl

section
variable (p : Prefixes) (bs : List Byte)

theorem scanPrefixes_lockPart (l : Bool) :
    scanPrefixes p ((if l then [0xF0] else []) ++ bs) = scanPrefixes { p with lock := p.lock || l } bs := by
  cases l with
  | false => simp
  | true => simp [scanPrefixes, Prefixes.add]

theorem scanPrefixes_segPart (seg : Option SegReg) :
    scanPrefixes p (seg.toList.map SegReg.prefixByte ++ bs) = scanPrefixes { p with seg := seg.or p.seg } bs := by
  cases seg with
  | none => rfl
  | some s => cases s <;> rfl

theorem scanPrefixes_opSizePart (d : OpSize) (size : Option OpSize) :
    scanPrefixes p (sizePrefix 0x66 d size ++ bs) =
      scanPrefixes { p with opSize := p.opSize || sizeDiffers d size } bs := by
  cases size with
  | none => simp [sizePrefix, sizeDiffers]
  | some z => cases z <;> cases d <;> simp [sizePrefix, sizeDiffers, scanPrefixes, Prefixes.add]

theorem scanPrefixes_adSizePart (d : OpSize) (size : Option OpSize) :
    scanPrefixes p (sizePrefix 0x67 d size ++ bs) =
      scanPrefixes { p with adSize := p.adSize || sizeDiffers d size } bs := by
  cases size with
  | none => simp [sizePrefix, sizeDiffers]
  | some z => cases z <;> cases d <;> simp [sizePrefix, sizeDiffers, scanPrefixes, Prefixes.add]

end

/-- The context that an encoding's prefixes make, where `lock` says whether LOCK is among them. -/
def Parts.ctx (p : Parts) (lock : Bool) (d : OpSize) : Ctx :=
  { lock := lock, seg := p.seg, size := p.size.getD d, addr := p.addr.getD d }

/-- The prefixes' bytes, as numbers. -/
def prefixCodes : List Nat := [0xF0, 0xF2, 0xF3, 0x26, 0x2E, 0x36, 0x3E, 0x64, 0x65, 0x66, 0x67]

theorem Prefixes.add_eq_none (p : Prefixes) {b : Byte} (h : b.toNat ∉ prefixCodes) : p.add b = Option.none := by
  unfold Prefixes.add
  split <;> simp_all [prefixCodes]

/-- No opcode of the table is among `prefixCodes`. -/
theorem not_prefix_of_oneByteRow {b : Byte} {r : Rule} (h : oneByteRows.lookup b = some r) :
    b.toNat ∉ prefixCodes := by
  have keys : ∀ k ∈ oneByteRows.map Prod.fst, k.toNat ∉ prefixCodes := by decide
  obtain ⟨before, after, hrows, -⟩ := List.lookup_eq_some_iff.mp h
  exact keys b (List.mem_map.mpr ⟨(b, r), by simp [hrows], rfl⟩)

theorem scanPrefixes_of_done {c : Ctx} {bs rest : List Byte} {i : Instr} (h : decodeOpcode c bs = .done i rest)
    (p : Prefixes) : scanPrefixes p bs = (p, bs) := by
  cases bs with
  | nil => rfl
  | cons b bs =>
    have opcode : b.toNat ∉ prefixCodes := by
      by_cases hb : b = 0x0F
      · rw [hb]
        decide
      · simp only [decodeOpcode, if_neg hb] at h
        split at h
        · next r hr => exact not_prefix_of_oneByteRow hr
        · cases h
    simp [scanPrefixes, p.add_eq_none opcode]

theorem Parts.prefixes_eq (p : Parts) (d : OpSize) :
    p.prefixes d = (if p.lock then [0xF0] else []) ++ p.seg.toList.map SegReg.prefixByte ++
      sizePrefix 0x66 d p.size ++ sizePrefix 0x67 d p.addr := by
  unfold Parts.prefixes
  cases p.seg <;> rfl

/-- What the prefixes of an encoding say, with one LOCK more where `l` says so. -/
def Parts.scanned (p : Parts) (l : Bool) (d : OpSize) : Prefixes :=
  { lock := l || p.lock, rep := false, seg := p.seg, opSize := sizeDiffers d p.size, adSize := sizeDiffers d p.addr }

theorem Parts.ctx_scanned (p : Parts) (l : Bool) (d : OpSize) : (p.scanned l d).ctx d = p.ctx (l || p.lock) d :=
  congrArg₂ (Ctx.mk (l || p.lock) p.seg) (selected_size d p.size) (selected_size d p.addr)

theorem scanPrefixes_prefixes (p : Parts) (l : Bool) (d : OpSize) (bs : List Byte) :
    scanPrefixes Prefixes.none ((if l then [0xF0] else []) ++ (p.prefixes d ++ bs)) =
      scanPrefixes (p.scanned l d) bs := by
  simp only [Parts.prefixes_eq, List.append_assoc]
  rw [scanPrefixes_lockPart, scanPrefixes_lockPart, scanPrefixes_segPart, scanPrefixes_opSizePart,
    scanPrefixes_adSizePart]
  simp [Prefixes.none, Parts.scanned]

/-- An encoding, with one LOCK more where `l` says so, decodes to what its opcode and operands are read as, where
LOCK is legal on that. -/
theorem decode_of_body {d : OpSize} {l : Bool} {i j : Instr} {rest : List Byte}
    (h : decodeOpcode (i.parts.ctx (l || i.parts.lock) d) (i.parts.body ++ rest) = .done j rest) :
    decode d ((if l then [0xF0] else []) ++ (encode d i ++ rest)) =
      checkLock (i.parts.ctx (l || i.parts.lock) d) j rest := by
  have scan : scanPrefixes Prefixes.none ((if l then [0xF0] else []) ++ (encode d i ++ rest)) =
      (i.parts.scanned l d, i.parts.body ++ rest) := by
    rw [encode, List.append_assoc, scanPrefixes_prefixes, scanPrefixes_of_done h]
  simp only [decode, scan, Parts.ctx_scanned, h]
  rfl

/-! #### Operands (30_encoding.md R122 to R128) -/

@[simp] theorem parse8_cons (b : Byte) (bs : List Byte) : parse8 (b :: bs) = .done b bs := rfl

@[simp] theorem parse16_le16 (v : Word) (bs : List Byte) : parse16 (le16 v ++ bs) = .done v bs := by
  have value : word16 (v.extractLsb' 0 8) (v.extractLsb' 8 8) = v := by
    apply BitVec.eq_of_getLsbD_eq
    intro i hi
    simp only [word16, BitVec.getLsbD_append, BitVec.getLsbD_extractLsb']
    grind
  simp [le16, parse16, value]

@[simp] theorem parse32_le32 (v : DWord) (bs : List Byte) : parse32 (le32 v ++ bs) = .done v bs := by
  have value : word32 (v.extractLsb' 0 8) (v.extractLsb' 8 8) (v.extractLsb' 16 8) (v.extractLsb' 24 8) = v := by
    apply BitVec.eq_of_getLsbD_eq
    intro i hi
    simp only [word32, BitVec.getLsbD_append, BitVec.getLsbD_extractLsb']
    grind
  simp [le32, parse32, value]

@[simp] theorem bind_done {α β : Type} (a : α) (bs : List Byte) (f : α → List Byte → Parse β) :
    (Parse.done a bs).bind f = f a bs := rfl

@[simp] theorem Reg.ofCode_code (r : Reg) : Reg.ofCode r.code = r := by cases r <;> rfl

@[simp] theorem Reg8.ofCode_code (r : Reg8) : Reg8.ofCode r.code = r := by cases r <;> rfl

@[simp] theorem Base16.ofCode_code (b : Base16) : Base16.ofCode b.code = b := by cases b <;> rfl

@[simp] theorem Reg.code_eq_four {r : Reg} : r.code = 4#3 ↔ r = .esp := by cases r <;> decide

section
variable (f76 : BitVec 2) (f53 f20 : BitVec 3)

@[simp] theorem field76_fields : field76 (fields f76 f53 f20) = f76 := by
  revert f76 f53 f20
  decide

@[simp] theorem field53_fields : field53 (fields f76 f53 f20) = f53 := by
  revert f76 f53 f20
  decide

@[simp] theorem field20_fields : field20 (fields f76 f53 f20) = f20 := by
  revert f76 f53 f20
  decide

end

/-- An effective address is read from its ModR/M byte on (30_encoding.md R124 to R126). -/
theorem parseEA_bytes {e : EffAddr} (h : e.wellFormed = true) (reg : BitVec 3) :
    ∃ mod rm tail, e.bytes reg = fields mod reg rm :: tail ∧ mod ≠ 3#2 ∧
      ∀ rest, parseEA e.size mod rm (tail ++ rest) = .done e rest := by
  cases e with
  | a16 base d =>
    cases base with
    | none => exact ⟨0, 6, le16 d, rfl, by decide, fun rest => by simp [EffAddr.size, parseEA, parseEA16]⟩
    | some b =>
      exact ⟨2, b.code, le16 d, rfl, by decide, fun rest => by simp [EffAddr.size, parseEA, parseEA16, parseDisp16]⟩
  | a32 base index d =>
    match base, index with
    | none, none => exact ⟨0, 5, le32 d, rfl, by decide, fun rest => by simp [EffAddr.size, parseEA, parseEA32]⟩
    | none, some (i, sc) =>
      have hi : i ≠ .esp := by simpa [EffAddr.wellFormed] using h
      exact ⟨0, 4, fields sc i.code 5 :: le32 d, rfl, by decide, fun rest => by
        simp [EffAddr.size, parseEA, parseEA32, parseSib, sibIndex, hi]⟩
    | some b, some (i, sc) =>
      have hi : i ≠ .esp := by simpa [EffAddr.wellFormed] using h
      exact ⟨2, 4, fields sc i.code b.code :: le32 d, by cases b <;> rfl, by decide, fun rest => by
        simp [EffAddr.size, parseEA, parseEA32, parseSib, parseDisp32, sibIndex, hi]⟩
    | some b, none =>
      by_cases hb : b = .esp
      · subst hb
        exact ⟨2, 4, fields 0 4 4 :: le32 d, rfl, by decide, fun rest => by
          simp [EffAddr.size, parseEA, parseEA32, parseSib, parseDisp32, sibIndex]
          rfl⟩
      · exact ⟨2, b.code, le32 d, by cases b <;> first | rfl | exact absurd rfl hb, by decide, fun rest => by
          simp [EffAddr.size, parseEA, parseEA32, parseDisp32, hb]⟩

theorem parseModRM_mem {c : Ctx} {m : MemOp} (h : m.wellFormed = true) (hseg : c.seg = m.override)
    (haddr : c.addr = m.ea.size) (reg : BitVec 3) (rest : List Byte) :
    parseModRM c (m.ea.bytes reg ++ rest) = .done (reg, .mem m) rest := by
  obtain ⟨mod, rm, tail, hbytes, hmod, hparse⟩ := parseEA_bytes h reg
  have seg : c.seg.getD m.ea.defaultSeg = m.seg := by
    rw [hseg, MemOp.override]
    split
    · next hdefault => exact hdefault.symm
    · rfl
  simp [parseModRM, hbytes, if_neg hmod, haddr, hparse, seg]

theorem parseModRM_reg (c : Ctx) (reg code : BitVec 3) (rest : List Byte) :
    parseModRM c (fields 3 reg code :: rest) = .done (reg, .reg code) rest := by
  simp [parseModRM]

/-- An operand as the decoder first reads it. -/
def RM8.raw : RM8 → RawRM
  | .reg r => .reg r.code
  | .mem m => .mem m

/-- An operand as the decoder first reads it. -/
def RM.raw : RM → RawRM
  | .reg r => .reg r.code
  | .mem m => .mem m

@[simp] theorem RM8.rm8_raw (rm : RM8) : rm.raw.rm8 = rm := by
  cases rm <;> simp [RM8.raw, RawRM.rm8]

@[simp] theorem RM.rm_raw (rm : RM) : rm.raw.rm = rm := by
  cases rm <;> simp [RM.raw, RawRM.rm]

section
variable {l l' : Bool} {size : Option OpSize} {body rest : List Byte} {d : OpSize} (reg : BitVec 3) (k : ModRule)

theorem ruleModRM_rm8 {rm : RM8} (h : rm.wellFormed = true) :
    ruleModRM k ((rm.parts l' size body).ctx l d) (rm.bytes reg ++ rest) =
      k ((rm.parts l' size body).ctx l d) reg rm.raw ((rm.parts l' size body).ctx l d) rest := by
  cases rm with
  | reg r =>
    rw [ruleModRM, RM8.bytes, List.singleton_append, parseModRM_reg]
    rfl
  | mem m =>
    rw [ruleModRM, RM8.bytes, parseModRM_mem h rfl rfl]
    rfl

theorem ruleModRM_rm {rm : RM} (h : rm.wellFormed = true) :
    ruleModRM k ((rm.parts l' size body).ctx l d) (rm.bytes reg ++ rest) =
      k ((rm.parts l' size body).ctx l d) reg rm.raw ((rm.parts l' size body).ctx l d) rest := by
  cases rm with
  | reg r =>
    rw [ruleModRM, RM.bytes, List.singleton_append, parseModRM_reg]
    rfl
  | mem m =>
    rw [ruleModRM, RM.bytes, parseModRM_mem h rfl rfl]
    rfl

theorem ruleModRM_mem {m : MemOp} (h : m.wellFormed = true) :
    ruleModRM k ((m.parts l' size body).ctx l d) (m.ea.bytes reg ++ rest) =
      k ((m.parts l' size body).ctx l d) reg (.mem m) ((m.parts l' size body).ctx l d) rest := by
  rw [ruleModRM, parseModRM_mem h rfl rfl]
  rfl

variable {pick : Nat → ModRule} {digit : Nat} {reg k}

/-- A row of a group, by the row that its digit picks. -/
theorem ruleGroup_rm8 {rm : RM8} (h : rm.wellFormed = true) (hd : reg.toNat = digit) (hk : pick digit = k) :
    ruleGroup pick ((rm.parts l' size body).ctx l d) (rm.bytes reg ++ rest) =
      k ((rm.parts l' size body).ctx l d) reg rm.raw ((rm.parts l' size body).ctx l d) rest := by
  rw [ruleGroup, ruleModRM_rm8 reg _ h, hd, hk]

theorem ruleGroup_rm {rm : RM} (h : rm.wellFormed = true) (hd : reg.toNat = digit) (hk : pick digit = k) :
    ruleGroup pick ((rm.parts l' size body).ctx l d) (rm.bytes reg ++ rest) =
      k ((rm.parts l' size body).ctx l d) reg rm.raw ((rm.parts l' size body).ctx l d) rest := by
  rw [ruleGroup, ruleModRM_rm reg _ h, hd, hk]

theorem ruleGroup_mem {m : MemOp} (h : m.wellFormed = true) (hd : reg.toNat = digit) (hk : pick digit = k) :
    ruleGroup pick ((m.parts l' size body).ctx l d) (m.ea.bytes reg ++ rest) =
      k ((m.parts l' size body).ctx l d) reg (.mem m) ((m.parts l' size body).ctx l d) rest := by
  rw [ruleGroup, ruleModRM_mem reg _ h, hd, hk]

end

/-! #### Opcodes (30_encoding.md R136, R137) -/

section
variable {c : Ctx} {b : Byte} {r : Rule} {bs : List Byte}

theorem decodeOpcode_row (hb : b ≠ 0x0F) (hr : oneByteRows.lookup b = some r) :
    decodeOpcode c (b :: bs) = r c bs := by
  simp only [decodeOpcode, if_neg hb, hr]

theorem decodeOpcode_row2 (hr : twoByteRows.lookup b = some r) : decodeOpcode c (0x0F :: b :: bs) = r c bs := by
  simp only [decodeOpcode, if_true, hr]

end

/-! #### Operands of the rows -/

theorem RM8.wellFormed_of_lockable {rm : RM8} {l : Bool} (h : rm.lockable l = true) : rm.wellFormed = true :=
  (Bool.and_eq_true_iff.mp h).1

theorem RM.wellFormed_of_lockable {rm : RM} {l : Bool} (h : rm.lockable l = true) : rm.wellFormed = true :=
  (Bool.and_eq_true_iff.mp h).1

theorem RM.size_ctx_parts (rm : RM) (l l' : Bool) (z d : OpSize) (body : List Byte) :
    ((rm.parts l' (some z) body).ctx l d).size = z := by
  cases rm <;> rfl

theorem MemOp.size_ctx_parts (m : MemOp) (l l' : Bool) (z d : OpSize) (body : List Byte) :
    ((m.parts l' (some z) body).ctx l d).size = z := rfl

section
variable {c c' : Ctx} {reg : BitVec 3} {rest : List Byte}

theorem mod8_raw {f : Bool → Reg8 → RM8 → Instr} {r : Reg8} {rm : RM8} (hr : Reg8.ofCode reg = r) :
    mod8 f c reg rm.raw c' rest = .done (f c.lock r rm) rest := by
  simp [mod8, hr]

theorem mod8Ib_raw {f : Bool → RM8 → Byte → Instr} {rm : RM8} {v : Byte} :
    mod8Ib f c reg rm.raw c' (v :: rest) = .done (f c.lock rm v) rest := by
  simp [mod8Ib]

section
variable {f16 f32 : Bool → Reg → RM → Instr} {r : Reg} {rm : RM}

theorem modV_raw16 (hs : c.size = .s16) (hr : Reg.ofCode reg = r) :
    modV f16 f32 c reg rm.raw c' rest = .done (f16 c.lock r rm) rest := by
  simp [modV, hs, hr]

theorem modV_raw32 (hs : c.size = .s32) (hr : Reg.ofCode reg = r) :
    modV f16 f32 c reg rm.raw c' rest = .done (f32 c.lock r rm) rest := by
  simp [modV, hs, hr]

/-- A row that both operand sizes share. -/
theorem modV_raw_same (hr : Reg.ofCode reg = r) :
    modV f16 f16 c reg rm.raw c' rest = .done (f16 c.lock r rm) rest := by
  cases hs : c.size with
  | s16 => exact modV_raw16 hs hr
  | s32 => exact modV_raw32 hs hr

end

section
variable {f16 f32 : Bool → RM → Byte → Instr} {rm : RM} {v : Byte}

theorem modVIb_raw16 (hs : c.size = .s16) :
    modVIb f16 f32 c reg rm.raw c' (v :: rest) = .done (f16 c.lock rm v) rest := by
  simp [modVIb, hs]

theorem modVIb_raw32 (hs : c.size = .s32) :
    modVIb f16 f32 c reg rm.raw c' (v :: rest) = .done (f32 c.lock rm v) rest := by
  simp [modVIb, hs]

end

section
variable {f16 : Bool → RM → Word → Instr} {f32 : Bool → RM → DWord → Instr} {rm : RM}

theorem modVIv_raw16 (hs : c.size = .s16) {v : Word} :
    modVIv f16 f32 c reg rm.raw c' (le16 v ++ rest) = .done (f16 c.lock rm v) rest := by
  simp [modVIv, hs]

theorem modVIv_raw32 (hs : c.size = .s32) {v : DWord} :
    modVIv f16 f32 c reg rm.raw c' (le32 v ++ rest) = .done (f32 c.lock rm v) rest := by
  simp [modVIv, hs]

end

section
variable {f16 f32 : Bool → Reg → MemOp → Instr} {r : Reg} {m : MemOp}

theorem modMem_mem16 (hs : c.size = .s16) (hr : Reg.ofCode reg = r) :
    modMem f16 f32 c reg (.mem m) c' rest = .done (f16 c.lock r m) rest := by
  simp [modMem, hs, hr]

theorem modMem_mem32 (hs : c.size = .s32) (hr : Reg.ofCode reg = r) :
    modMem f16 f32 c reg (.mem m) c' rest = .done (f32 c.lock r m) rest := by
  simp [modMem, hs, hr]

/-- A row that both operand sizes share. -/
theorem modMem_mem_same (hr : Reg.ofCode reg = r) :
    modMem f16 f16 c reg (.mem m) c' rest = .done (f16 c.lock r m) rest := by
  cases hs : c.size with
  | s16 => exact modMem_mem16 hs hr
  | s32 => exact modMem_mem32 hs hr

end

end

/-! #### Immediates of the rows -/

section
variable {r16 r32 : Rule} {c : Ctx} {bs : List Byte}

theorem ruleSized_s16 (hs : c.size = .s16) : ruleSized r16 r32 c bs = r16 c bs := by
  simp [ruleSized, hs]

theorem ruleSized_s32 (hs : c.size = .s32) : ruleSized r16 r32 c bs = r32 c bs := by
  simp [ruleSized, hs]

theorem ruleIw_le16 {f : Word → Instr} {v : Word} : ruleIw f c (le16 v ++ bs) = .done (f v) bs := by
  simp [ruleIw]

theorem ruleId_le32 {f : DWord → Instr} {v : DWord} : ruleId f c (le32 v ++ bs) = .done (f v) bs := by
  simp [ruleId]

theorem ruleCd_le16 {f : Word → Word → Instr} {sel off : Word} :
    ruleCd f c (le16 off ++ le16 sel ++ bs) = .done (f sel off) bs := by
  simp [ruleCd]

theorem ruleCp_le32 {f : Word → DWord → Instr} {sel : Word} {off : DWord} :
    ruleCp f c (le32 off ++ le16 sel ++ bs) = .done (f sel off) bs := by
  simp [ruleCp]

end

/-! #### Every instruction -/

/-- The same instruction, with or without LOCK where it is lockable (20_memory.md R107). -/
def Instr.relock (l : Bool) : Instr → Instr
  | .adcRm8Ib _ a b => .adcRm8Ib l a b
  | .adcRm16Iw _ a b => .adcRm16Iw l a b
  | .adcRm32Id _ a b => .adcRm32Id l a b
  | .adcRm16Ib _ a b => .adcRm16Ib l a b
  | .adcRm32Ib _ a b => .adcRm32Ib l a b
  | .adcRm8R8 _ a b => .adcRm8R8 l a b
  | .adcRm16R16 _ a b => .adcRm16R16 l a b
  | .adcRm32R32 _ a b => .adcRm32R32 l a b
  | .addRm8Ib _ a b => .addRm8Ib l a b
  | .addRm16Iw _ a b => .addRm16Iw l a b
  | .addRm32Id _ a b => .addRm32Id l a b
  | .addRm16Ib _ a b => .addRm16Ib l a b
  | .addRm32Ib _ a b => .addRm32Ib l a b
  | .addRm8R8 _ a b => .addRm8R8 l a b
  | .addRm16R16 _ a b => .addRm16R16 l a b
  | .addRm32R32 _ a b => .addRm32R32 l a b
  | .andRm8Ib _ a b => .andRm8Ib l a b
  | .andRm16Iw _ a b => .andRm16Iw l a b
  | .andRm32Id _ a b => .andRm32Id l a b
  | .andRm16Ib _ a b => .andRm16Ib l a b
  | .andRm32Ib _ a b => .andRm32Ib l a b
  | .andRm8R8 _ a b => .andRm8R8 l a b
  | .andRm16R16 _ a b => .andRm16R16 l a b
  | .andRm32R32 _ a b => .andRm32R32 l a b
  | .btcRm16R16 _ a b => .btcRm16R16 l a b
  | .btcRm32R32 _ a b => .btcRm32R32 l a b
  | .btcRm16Ib _ a b => .btcRm16Ib l a b
  | .btcRm32Ib _ a b => .btcRm32Ib l a b
  | .btrRm16R16 _ a b => .btrRm16R16 l a b
  | .btrRm32R32 _ a b => .btrRm32R32 l a b
  | .btrRm16Ib _ a b => .btrRm16Ib l a b
  | .btrRm32Ib _ a b => .btrRm32Ib l a b
  | .btsRm16R16 _ a b => .btsRm16R16 l a b
  | .btsRm32R32 _ a b => .btsRm32R32 l a b
  | .btsRm16Ib _ a b => .btsRm16Ib l a b
  | .btsRm32Ib _ a b => .btsRm32Ib l a b
  | .cmpxchgRm8R8 _ a b => .cmpxchgRm8R8 l a b
  | .cmpxchgRm16R16 _ a b => .cmpxchgRm16R16 l a b
  | .cmpxchgRm32R32 _ a b => .cmpxchgRm32R32 l a b
  | .cmpxchg8b _ a => .cmpxchg8b l a
  | .decRm8 _ a => .decRm8 l a
  | .decRm16 _ a => .decRm16 l a
  | .decRm32 _ a => .decRm32 l a
  | i => i

theorem Instr.relock_locked (i : Instr) : i.relock i.locked = i := by
  cases i <;> rfl

/-- The rest of an encoding after its prefixes is read as the instruction that it encodes, with the lock that the
prefixes say (30_encoding.md R135). -/
theorem decodeOpcode_body {i : Instr} (h : i.wellFormed = true) (l : Bool) (d : OpSize) (rest : List Byte) :
    decodeOpcode (i.parts.ctx l d) (i.parts.body ++ rest) = .done (i.relock l) rest := by
  cases i with
  | aaa | aas | clc | cld | cli | cmc | daa | das | cbw | cwde | cwd | cdq | clts | cpuid | aad | aam | adcAlIb |
    addAlIb | andAlIb | cmpAlIb => rfl
  | bswap size r => cases r <;> rfl
  | decR16 r | decR32 r => cases r <;> rfl
  | cmpsb addr seg | cmpsw addr seg | cmpsd addr seg => cases seg <;> rfl
  | adcAxIw | addAxIw | andAxIw | cmpAxIw | callRel16 =>
    refine (decodeOpcode_row (by decide) rfl).trans ?_
    exact (ruleSized_s16 rfl).trans ruleIw_le16
  | adcEaxId | addEaxId | andEaxId | cmpEaxId | callRel32 =>
    refine (decodeOpcode_row (by decide) rfl).trans ?_
    exact (ruleSized_s32 rfl).trans ruleId_le32
  | callPtr16 =>
    refine (decodeOpcode_row (by decide) rfl).trans ?_
    exact (ruleSized_s16 rfl).trans ruleCd_le16
  | callPtr32 =>
    refine (decodeOpcode_row (by decide) rfl).trans ?_
    exact (ruleSized_s32 rfl).trans ruleCp_le32
  | adcRm8Ib | addRm8Ib | andRm8Ib =>
    simp only [Instr.parts, Laws.rm8_parts_body, List.append_assoc, List.cons_append, List.nil_append]
    refine (decodeOpcode_row (by decide) rfl).trans ?_
    refine (ruleGroup_rm8 (k := mod8Ib _) (RM8.wellFormed_of_lockable h) rfl rfl).trans ?_
    exact mod8Ib_raw
  | adcRm16Iw | addRm16Iw | andRm16Iw =>
    simp only [Instr.parts, Laws.rm_parts_body, List.append_assoc, List.cons_append, List.nil_append]
    refine (decodeOpcode_row (by decide) rfl).trans ?_
    refine (ruleGroup_rm (k := modVIv _ _) (RM.wellFormed_of_lockable h) rfl rfl).trans ?_
    exact modVIv_raw16 (RM.size_ctx_parts _ _ _ _ _ _)
  | adcRm32Id | addRm32Id | andRm32Id =>
    simp only [Instr.parts, Laws.rm_parts_body, List.append_assoc, List.cons_append, List.nil_append]
    refine (decodeOpcode_row (by decide) rfl).trans ?_
    refine (ruleGroup_rm (k := modVIv _ _) (RM.wellFormed_of_lockable h) rfl rfl).trans ?_
    exact modVIv_raw32 (RM.size_ctx_parts _ _ _ _ _ _)
  | adcRm16Ib | addRm16Ib | andRm16Ib =>
    simp only [Instr.parts, Laws.rm_parts_body, List.append_assoc, List.cons_append, List.nil_append]
    refine (decodeOpcode_row (by decide) rfl).trans ?_
    refine (ruleGroup_rm (k := modVIb _ _) (RM.wellFormed_of_lockable h) rfl rfl).trans ?_
    exact modVIb_raw16 (RM.size_ctx_parts _ _ _ _ _ _)
  | adcRm32Ib | addRm32Ib | andRm32Ib =>
    simp only [Instr.parts, Laws.rm_parts_body, List.append_assoc, List.cons_append, List.nil_append]
    refine (decodeOpcode_row (by decide) rfl).trans ?_
    refine (ruleGroup_rm (k := modVIb _ _) (RM.wellFormed_of_lockable h) rfl rfl).trans ?_
    exact modVIb_raw32 (RM.size_ctx_parts _ _ _ _ _ _)
  | cmpRm8Ib =>
    simp only [Instr.parts, Laws.rm8_parts_body, List.append_assoc, List.cons_append, List.nil_append]
    refine (decodeOpcode_row (by decide) rfl).trans ?_
    refine (ruleGroup_rm8 (k := mod8Ib _) h rfl rfl).trans ?_
    exact mod8Ib_raw
  | cmpRm16Iw =>
    simp only [Instr.parts, Laws.rm_parts_body, List.append_assoc, List.cons_append, List.nil_append]
    refine (decodeOpcode_row (by decide) rfl).trans ?_
    refine (ruleGroup_rm (k := modVIv _ _) h rfl rfl).trans ?_
    exact modVIv_raw16 (RM.size_ctx_parts _ _ _ _ _ _)
  | cmpRm32Id =>
    simp only [Instr.parts, Laws.rm_parts_body, List.append_assoc, List.cons_append, List.nil_append]
    refine (decodeOpcode_row (by decide) rfl).trans ?_
    refine (ruleGroup_rm (k := modVIv _ _) h rfl rfl).trans ?_
    exact modVIv_raw32 (RM.size_ctx_parts _ _ _ _ _ _)
  | cmpRm16Ib =>
    simp only [Instr.parts, Laws.rm_parts_body, List.append_assoc, List.cons_append, List.nil_append]
    refine (decodeOpcode_row (by decide) rfl).trans ?_
    refine (ruleGroup_rm (k := modVIb _ _) h rfl rfl).trans ?_
    exact modVIb_raw16 (RM.size_ctx_parts _ _ _ _ _ _)
  | cmpRm32Ib =>
    simp only [Instr.parts, Laws.rm_parts_body, List.append_assoc, List.cons_append, List.nil_append]
    refine (decodeOpcode_row (by decide) rfl).trans ?_
    refine (ruleGroup_rm (k := modVIb _ _) h rfl rfl).trans ?_
    exact modVIb_raw32 (RM.size_ctx_parts _ _ _ _ _ _)
  | adcRm8R8 | addRm8R8 | andRm8R8 =>
    simp only [Instr.parts, Laws.rm8_parts_body, List.cons_append, List.nil_append]
    refine (decodeOpcode_row (by decide) rfl).trans ?_
    exact (ruleModRM_rm8 _ _ (RM8.wellFormed_of_lockable h)).trans (mod8_raw (Reg8.ofCode_code _))
  | adcR8Rm8 | addR8Rm8 | andR8Rm8 | cmpR8Rm8 | cmpRm8R8 =>
    simp only [Instr.parts, Laws.rm8_parts_body, List.cons_append, List.nil_append]
    refine (decodeOpcode_row (by decide) rfl).trans ?_
    exact (ruleModRM_rm8 _ _ h).trans (mod8_raw (Reg8.ofCode_code _))
  | adcRm16R16 | addRm16R16 | andRm16R16 =>
    simp only [Instr.parts, Laws.rm_parts_body, List.cons_append, List.nil_append]
    refine (decodeOpcode_row (by decide) rfl).trans ?_
    exact (ruleModRM_rm _ _ (RM.wellFormed_of_lockable h)).trans
      (modV_raw16 (RM.size_ctx_parts _ _ _ _ _ _) (Reg.ofCode_code _))
  | adcR16Rm16 | addR16Rm16 | andR16Rm16 | cmpR16Rm16 | cmpRm16R16 =>
    simp only [Instr.parts, Laws.rm_parts_body, List.cons_append, List.nil_append]
    refine (decodeOpcode_row (by decide) rfl).trans ?_
    exact (ruleModRM_rm _ _ h).trans (modV_raw16 (RM.size_ctx_parts _ _ _ _ _ _) (Reg.ofCode_code _))
  | adcRm32R32 | addRm32R32 | andRm32R32 =>
    simp only [Instr.parts, Laws.rm_parts_body, List.cons_append, List.nil_append]
    refine (decodeOpcode_row (by decide) rfl).trans ?_
    exact (ruleModRM_rm _ _ (RM.wellFormed_of_lockable h)).trans
      (modV_raw32 (RM.size_ctx_parts _ _ _ _ _ _) (Reg.ofCode_code _))
  | adcR32Rm32 | addR32Rm32 | andR32Rm32 | cmpR32Rm32 | cmpRm32R32 =>
    simp only [Instr.parts, Laws.rm_parts_body, List.cons_append, List.nil_append]
    refine (decodeOpcode_row (by decide) rfl).trans ?_
    exact (ruleModRM_rm _ _ h).trans (modV_raw32 (RM.size_ctx_parts _ _ _ _ _ _) (Reg.ofCode_code _))
  | arpl =>
    simp only [Instr.parts, Laws.rm_parts_body, List.cons_append, List.nil_append]
    refine (decodeOpcode_row (by decide) rfl).trans ?_
    exact (ruleModRM_rm _ _ h).trans (modV_raw_same (Reg.ofCode_code _))
  | decRm8 =>
    simp only [Instr.parts, Laws.rm8_parts_body, List.cons_append, List.nil_append]
    refine (decodeOpcode_row (by decide) rfl).trans ?_
    refine (ruleGroup_rm8 (digit := 1) (k := mod8 fun l _ rm => .decRm8 l rm)
      (RM8.wellFormed_of_lockable h) rfl rfl).trans ?_
    exact mod8_raw rfl
  | divRm8 =>
    simp only [Instr.parts, Laws.rm8_parts_body, List.cons_append, List.nil_append]
    refine (decodeOpcode_row (by decide) rfl).trans ?_
    refine (ruleGroup_rm8 (digit := 6) (k := mod8 fun _ _ rm => .divRm8 rm)
      h rfl rfl).trans ?_
    exact mod8_raw rfl
  | decRm16 =>
    simp only [Instr.parts, Laws.rm_parts_body, List.cons_append, List.nil_append]
    refine (decodeOpcode_row (by decide) rfl).trans ?_
    refine (ruleGroup_rm (digit := 1) (k := modV (fun l _ rm => .decRm16 l rm) fun l _ rm => .decRm32 l rm)
      (RM.wellFormed_of_lockable h) rfl rfl).trans ?_
    exact modV_raw16 (RM.size_ctx_parts _ _ _ _ _ _) rfl
  | divRm16 =>
    simp only [Instr.parts, Laws.rm_parts_body, List.cons_append, List.nil_append]
    refine (decodeOpcode_row (by decide) rfl).trans ?_
    refine (ruleGroup_rm (digit := 6) (k := modV (fun _ _ rm => .divRm16 rm) fun _ _ rm => .divRm32 rm)
      h rfl rfl).trans ?_
    exact modV_raw16 (RM.size_ctx_parts _ _ _ _ _ _) rfl
  | callRm16 =>
    simp only [Instr.parts, Laws.rm_parts_body, List.cons_append, List.nil_append]
    refine (decodeOpcode_row (by decide) rfl).trans ?_
    refine (ruleGroup_rm (digit := 2) (k := modV (fun _ _ rm => .callRm16 rm) fun _ _ rm => .callRm32 rm)
      h rfl rfl).trans ?_
    exact modV_raw16 (RM.size_ctx_parts _ _ _ _ _ _) rfl
  | decRm32 =>
    simp only [Instr.parts, Laws.rm_parts_body, List.cons_append, List.nil_append]
    refine (decodeOpcode_row (by decide) rfl).trans ?_
    refine (ruleGroup_rm (digit := 1) (k := modV (fun l _ rm => .decRm16 l rm) fun l _ rm => .decRm32 l rm)
      (RM.wellFormed_of_lockable h) rfl rfl).trans ?_
    exact modV_raw32 (RM.size_ctx_parts _ _ _ _ _ _) rfl
  | divRm32 =>
    simp only [Instr.parts, Laws.rm_parts_body, List.cons_append, List.nil_append]
    refine (decodeOpcode_row (by decide) rfl).trans ?_
    refine (ruleGroup_rm (digit := 6) (k := modV (fun _ _ rm => .divRm16 rm) fun _ _ rm => .divRm32 rm)
      h rfl rfl).trans ?_
    exact modV_raw32 (RM.size_ctx_parts _ _ _ _ _ _) rfl
  | callRm32 =>
    simp only [Instr.parts, Laws.rm_parts_body, List.cons_append, List.nil_append]
    refine (decodeOpcode_row (by decide) rfl).trans ?_
    refine (ruleGroup_rm (digit := 2) (k := modV (fun _ _ rm => .callRm16 rm) fun _ _ rm => .callRm32 rm)
      h rfl rfl).trans ?_
    exact modV_raw32 (RM.size_ctx_parts _ _ _ _ _ _) rfl
  | cmovO16 | cmovNo16 | cmovB16 | cmovAe16 | cmovE16 | cmovNe16 | cmovBe16 | cmovA16 | cmovS16 | cmovNs16 |
    cmovP16 | cmovNp16 | cmovL16 | cmovGe16 | cmovLe16 | cmovG16 | bsfR16Rm16 | bsrR16Rm16 | btRm16R16 =>
    simp only [Instr.parts, Laws.rm_parts_body, List.cons_append, List.nil_append]
    refine (decodeOpcode_row2 rfl).trans ?_
    exact (ruleModRM_rm _ _ h).trans (modV_raw16 (RM.size_ctx_parts _ _ _ _ _ _) (Reg.ofCode_code _))
  | btcRm16R16 | btrRm16R16 | btsRm16R16 | cmpxchgRm16R16 =>
    simp only [Instr.parts, Laws.rm_parts_body, List.cons_append, List.nil_append]
    refine (decodeOpcode_row2 rfl).trans ?_
    exact (ruleModRM_rm _ _ (RM.wellFormed_of_lockable h)).trans
      (modV_raw16 (RM.size_ctx_parts _ _ _ _ _ _) (Reg.ofCode_code _))
  | btcRm16Ib | btrRm16Ib | btsRm16Ib =>
    simp only [Instr.parts, Laws.rm_parts_body, List.append_assoc, List.cons_append, List.nil_append]
    refine (decodeOpcode_row2 rfl).trans ?_
    refine (ruleGroup_rm (k := modVIb _ _) (RM.wellFormed_of_lockable h) rfl rfl).trans ?_
    exact modVIb_raw16 (RM.size_ctx_parts _ _ _ _ _ _)
  | btRm16Ib =>
    simp only [Instr.parts, Laws.rm_parts_body, List.append_assoc, List.cons_append, List.nil_append]
    refine (decodeOpcode_row2 rfl).trans ?_
    refine (ruleGroup_rm (digit := 4) (k := modVIb (fun _ rm v => .btRm16Ib rm v) fun _ rm v => .btRm32Ib rm v)
      h rfl rfl).trans ?_
    exact modVIb_raw16 (RM.size_ctx_parts _ _ _ _ _ _)
  | cmovO32 | cmovNo32 | cmovB32 | cmovAe32 | cmovE32 | cmovNe32 | cmovBe32 | cmovA32 | cmovS32 | cmovNs32 |
    cmovP32 | cmovNp32 | cmovL32 | cmovGe32 | cmovLe32 | cmovG32 | bsfR32Rm32 | bsrR32Rm32 | btRm32R32 =>
    simp only [Instr.parts, Laws.rm_parts_body, List.cons_append, List.nil_append]
    refine (decodeOpcode_row2 rfl).trans ?_
    exact (ruleModRM_rm _ _ h).trans (modV_raw32 (RM.size_ctx_parts _ _ _ _ _ _) (Reg.ofCode_code _))
  | btcRm32R32 | btrRm32R32 | btsRm32R32 | cmpxchgRm32R32 =>
    simp only [Instr.parts, Laws.rm_parts_body, List.cons_append, List.nil_append]
    refine (decodeOpcode_row2 rfl).trans ?_
    exact (ruleModRM_rm _ _ (RM.wellFormed_of_lockable h)).trans
      (modV_raw32 (RM.size_ctx_parts _ _ _ _ _ _) (Reg.ofCode_code _))
  | btcRm32Ib | btrRm32Ib | btsRm32Ib =>
    simp only [Instr.parts, Laws.rm_parts_body, List.append_assoc, List.cons_append, List.nil_append]
    refine (decodeOpcode_row2 rfl).trans ?_
    refine (ruleGroup_rm (k := modVIb _ _) (RM.wellFormed_of_lockable h) rfl rfl).trans ?_
    exact modVIb_raw32 (RM.size_ctx_parts _ _ _ _ _ _)
  | btRm32Ib =>
    simp only [Instr.parts, Laws.rm_parts_body, List.append_assoc, List.cons_append, List.nil_append]
    refine (decodeOpcode_row2 rfl).trans ?_
    refine (ruleGroup_rm (digit := 4) (k := modVIb (fun _ rm v => .btRm16Ib rm v) fun _ rm v => .btRm32Ib rm v)
      h rfl rfl).trans ?_
    exact modVIb_raw32 (RM.size_ctx_parts _ _ _ _ _ _)
  | cmpxchgRm8R8 =>
    simp only [Instr.parts, Laws.rm8_parts_body, List.cons_append, List.nil_append]
    refine (decodeOpcode_row2 rfl).trans ?_
    exact (ruleModRM_rm8 _ _ (RM8.wellFormed_of_lockable h)).trans (mod8_raw (Reg8.ofCode_code _))
  | boundR16 =>
    refine (decodeOpcode_row (by decide) rfl).trans ?_
    exact (ruleModRM_mem _ _ h).trans (modMem_mem16 (MemOp.size_ctx_parts _ _ _ _ _ _) (Reg.ofCode_code _))
  | callM16x16 =>
    refine (decodeOpcode_row (by decide) rfl).trans ?_
    refine (ruleGroup_mem (digit := 3) (k := modMem (fun _ _ m => .callM16x16 m) fun _ _ m => .callM16x32 m)
      h rfl rfl).trans ?_
    exact modMem_mem16 (MemOp.size_ctx_parts _ _ _ _ _ _) rfl
  | boundR32 =>
    refine (decodeOpcode_row (by decide) rfl).trans ?_
    exact (ruleModRM_mem _ _ h).trans (modMem_mem32 (MemOp.size_ctx_parts _ _ _ _ _ _) (Reg.ofCode_code _))
  | callM16x32 =>
    refine (decodeOpcode_row (by decide) rfl).trans ?_
    refine (ruleGroup_mem (digit := 3) (k := modMem (fun _ _ m => .callM16x16 m) fun _ _ m => .callM16x32 m)
      h rfl rfl).trans ?_
    exact modMem_mem32 (MemOp.size_ctx_parts _ _ _ _ _ _) rfl
  | cmpxchg8b =>
    refine (decodeOpcode_row2 rfl).trans ?_
    refine (ruleGroup_mem (digit := 1) (k := modMem (fun l _ m => .cmpxchg8b l m) fun l _ m => .cmpxchg8b l m)
      h rfl rfl).trans ?_
    exact modMem_mem_same rfl

/-! #### Where LOCK is illegal (20_memory.md R107; the spec's decision D23) -/

/-- LOCK is not legal on the instruction with its `lock` field, where it has one, set. -/
def Instr.TakesNoLock (i : Instr) : Prop := ¬((i.relock true).locked = true ∧ (i.relock true).wellFormed = true)

/-- An encoding with one LOCK too many decodes only where LOCK is legal on its instruction. -/
theorem decode_lock_encode {i : Instr} (h : i.wellFormed = true) (illegal : i.TakesNoLock) (d : OpSize)
    (rest : List Byte) : decode d (0xF0 :: encode d i ++ rest) = .undefined := by
  have refuses : (i.parts.ctx true d).lock = true ∧
      ¬((i.relock true).locked = true ∧ (i.relock true).wellFormed = true) := ⟨rfl, illegal⟩
  calc decode d (0xF0 :: encode d i ++ rest)
      = checkLock (i.parts.ctx true d) (i.relock true) rest :=
        decode_of_body (l := true) (decodeOpcode_body h true d rest)
    _ = .undefined := if_pos refuses

theorem Instr.takesNoLock_of_unlocked {i : Instr} (h : (i.relock true).locked = false) : i.TakesNoLock := by
  simp [Instr.TakesNoLock, h]

theorem Instr.takesNoLock_of_malformed {i : Instr} (h : (i.relock true).wellFormed = false) : i.TakesNoLock := by
  simp [Instr.TakesNoLock, h]

section

open Sys2Proof.Machine Sys2Proof.Claims

theorem RM8.lockable_of_register {rm : RM8} (h : ∀ m, rm.place ≠ .mem m) : rm.lockable true = false := by
  cases rm with
  | reg r => rfl
  | mem m => exact absurd rfl (h m)

theorem RM.lockable_of_register16 {rm : RM} (h : ∀ m, rm.place16 ≠ .mem m) : rm.lockable true = false := by
  cases rm with
  | reg r => rfl
  | mem m => exact absurd rfl (h m)

theorem RM.lockable_of_register32 {rm : RM} (h : ∀ m, rm.place32 ≠ .mem m) : rm.lockable true = false := by
  cases rm with
  | reg r => rfl
  | mem m => exact absurd rfl (h m)

section
variable {l : Bool} {w : Nat} {dst : Place w} {src : Operand w} {i : Instr}

theorem takesNoLock_of_alu {f : AluForms} (hf : f ∈ [adcForms, addForms, andForms]) (form : AluForm f l dst src i)
    (register : ∀ m, dst ≠ .mem m) : i.TakesNoLock := by
  simp only [List.mem_cons, List.not_mem_nil, or_false] at hf
  cases form with
  | alIb | axIw | eaxId | r8Rm8 | r16Rm16 | r32Rm32 =>
    rcases hf with rfl | rfl | rfl <;> exact Instr.takesNoLock_of_unlocked rfl
  | rm8Ib | rm8R8 =>
    have illegal := RM8.lockable_of_register register
    rcases hf with rfl | rfl | rfl <;> exact Instr.takesNoLock_of_malformed illegal
  | rm16Iw | rm16Ib | rm16R16 =>
    have illegal := RM.lockable_of_register16 register
    rcases hf with rfl | rfl | rfl <;> exact Instr.takesNoLock_of_malformed illegal
  | rm32Id | rm32Ib | rm32R32 =>
    have illegal := RM.lockable_of_register32 register
    rcases hf with rfl | rfl | rfl <;> exact Instr.takesNoLock_of_malformed illegal

theorem takesNoLock_of_bit {op : BitOp} (form : BitForm op l dst src i) (register : ∀ m, dst ≠ .mem m) :
    i.TakesNoLock := by
  cases form with
  | bt16 | bt32 | bt16i | bt32i => exact Instr.takesNoLock_of_unlocked rfl
  | btc16 | btr16 | bts16 | btc16i | btr16i | bts16i =>
    exact Instr.takesNoLock_of_malformed (RM.lockable_of_register16 register)
  | btc32 | btr32 | bts32 | btc32i | btr32i | bts32i =>
    exact Instr.takesNoLock_of_malformed (RM.lockable_of_register32 register)

theorem takesNoLock_of_cmpxchg {acc src : Place w} (form : CmpxchgForm l acc dst src i)
    (register : ∀ m, dst ≠ .mem m) : i.TakesNoLock := by
  cases form with
  | rm8 => exact Instr.takesNoLock_of_malformed (RM8.lockable_of_register register)
  | rm16 => exact Instr.takesNoLock_of_malformed (RM.lockable_of_register16 register)
  | rm32 => exact Instr.takesNoLock_of_malformed (RM.lockable_of_register32 register)

theorem takesNoLock_of_dec (form : DecForm l dst i) (register : ∀ m, dst ≠ .mem m) : i.TakesNoLock := by
  cases form with
  | rm8 => exact Instr.takesNoLock_of_malformed (RM8.lockable_of_register register)
  | rm16 => exact Instr.takesNoLock_of_malformed (RM.lockable_of_register16 register)
  | rm32 => exact Instr.takesNoLock_of_malformed (RM.lockable_of_register32 register)
  | r16 | r32 => exact Instr.takesNoLock_of_unlocked rfl

theorem takesNoLock_of_cmp (form : AluForm cmpForms l dst src i) : i.TakesNoLock := by
  cases form <;> exact Instr.takesNoLock_of_unlocked rfl

theorem takesNoLock_of_bt (form : BitForm .bt l dst src i) : i.TakesNoLock := by
  cases form <;> exact Instr.takesNoLock_of_unlocked rfl

theorem takesNoLock_of_cmov {cond : StatusFlags → Bool} {src : Place w} (form : CmovForm cond dst src i) :
    i.TakesNoLock := by
  have unlocked : ∀ row ∈ cmovTable, ∀ r rm,
      ((row.2.1 r rm).relock true).locked = false ∧ ((row.2.2 r rm).relock true).locked = false := by
    simp [cmovTable, Instr.relock, Instr.locked]
  cases form with
  | r16 row h r rm => exact Instr.takesNoLock_of_unlocked (unlocked row h r rm).1
  | r32 row h r rm => exact Instr.takesNoLock_of_unlocked (unlocked row h r rm).2

end

theorem takesNoLock_of_notLockable {i : Instr} (h : NotLockable i) : i.TakesNoLock := by
  cases h with
  | alone _ mem =>
    have unlocked : ∀ i ∈ [Instr.aaa, .aas, .daa, .das, .cbw, .cwde, .cwd, .cdq, .clc, .cld, .cli, .clts, .cmc,
        .cpuid], (i.relock true).locked = false := by decide
    exact Instr.takesNoLock_of_unlocked (unlocked i mem)
  | aad | aam | arpl | bswap | callRel16 | callRel32 | callRm16 | callRm32 | callPtr16 | callPtr32 | callM16x16 |
    callM16x32 | divRm8 | divRm16 | divRm32 => exact Instr.takesNoLock_of_unlocked rfl
  | bound index m _ form => cases form <;> exact Instr.takesNoLock_of_unlocked rfl
  | scan fwd dst src _ form => cases form <;> exact Instr.takesNoLock_of_unlocked rfl
  | cmps w a g _ form => cases form <;> exact Instr.takesNoLock_of_unlocked rfl
  | bt l base off _ form => exact takesNoLock_of_bt form
  | cmov cond dst src _ form => exact takesNoLock_of_cmov form
  | cmp l dst src _ form => exact takesNoLock_of_cmp form
  | alu f mem l dst src _ form register => exact takesNoLock_of_alu mem form register
  | bit op l base off _ form register => exact takesNoLock_of_bit form register
  | cmpxchg l acc dst src _ form register => exact takesNoLock_of_cmpxchg form register
  | dec l dst _ form register => exact takesNoLock_of_dec form register

end

end Sys2Proof

section

open Sys2Proof Sys2Proof.Machine Sys2Proof.Claims

/-- Settles O6: an encoding is read back with LOCK in its `lock` field, and LOCK is legal on no instruction of D23's
other kinds. -/
theorem lockNeedsMemoryDestination : Obligations.LockNeedsMemoryDestination := by
  unfold Obligations.LockNeedsMemoryDestination
  intro d rest
  constructor
  · intro bs i h
    exact locked_of_decode h
  · intro i notLockable wellFormed
    exact decode_lock_encode wellFormed (takesNoLock_of_notLockable notLockable) d rest

end

/-! ### The encoding (30_encoding.md) -/

namespace Sys2Proof

/-! #### What the encoder writes is read back -/

theorem RM8.lock_parts (rm : RM8) (l : Bool) (z : Option OpSize) (body : List Byte) :
    (rm.parts l z body).lock = l := by
  cases rm <;> rfl

theorem RM.lock_parts (rm : RM) (l : Bool) (z : Option OpSize) (body : List Byte) : (rm.parts l z body).lock = l := by
  cases rm <;> rfl

/-- LOCK is among an encoding's prefixes where its instruction carries the lock. -/
theorem Instr.lock_parts (i : Instr) : i.parts.lock = i.locked := by
  cases i <;> simp only [Instr.parts, Instr.locked, RM8.lock_parts, RM.lock_parts, regParts, MemOp.parts, stringParts]

theorem checkLock_of_wellFormed {c : Ctx} {i : Instr} (hc : c.lock = i.locked) (h : i.wellFormed = true)
    (rest : List Byte) : checkLock c i rest = .done i rest :=
  if_neg fun illegal => illegal.2 ⟨hc ▸ illegal.1, h⟩

theorem decode_encode {i : Instr} (h : i.wellFormed = true) (d : OpSize) (rest : List Byte) :
    decode d (encode d i ++ rest) = .done i rest := by
  have body : decodeOpcode (i.parts.ctx i.parts.lock d) (i.parts.body ++ rest) = .done i rest := by
    rw [decodeOpcode_body h, i.lock_parts, i.relock_locked]
  calc decode d (encode d i ++ rest)
      = checkLock (i.parts.ctx i.parts.lock d) i rest := decode_of_body (l := false) body
    _ = .done i rest := checkLock_of_wellFormed i.lock_parts h rest

/-! #### Repeat prefixes (30_encoding.md R132) -/

theorem Prefixes.rep_of_add {p p' : Prefixes} {b : Byte} (h : p.add b = some p') (hr : p.rep = true) :
    p'.rep = true := by
  unfold Prefixes.add at h
  split at h <;> cases h <;> simp [hr]

theorem scanPrefixes_rep {p : Prefixes} (h : p.rep = true) (bs : List Byte) : (scanPrefixes p bs).1.rep = true := by
  induction bs generalizing p with
  | nil => exact h
  | cons b bs ih =>
    rw [scanPrefixes]
    split
    · next p' hp => exact ih (Prefixes.rep_of_add hp h)
    · exact h

/-- The bytes of the prefixes of 30_encoding.md R132. -/
def prefixBytes : List Byte := [0xF0, 0xF2, 0xF3, 0x26, 0x2E, 0x36, 0x3E, 0x64, 0x65, 0x66, 0x67]

theorem Prefixes.exists_add (p : Prefixes) {b : Byte} (h : b ∈ prefixBytes) : ∃ p', p.add b = some p' := by
  simp only [prefixBytes, List.mem_cons, List.not_mem_nil, or_false] at h
  rcases h with rfl | rfl | rfl | rfl | rfl | rfl | rfl | rfl | rfl | rfl | rfl <;> exact ⟨_, rfl⟩

theorem scanPrefixes_rep_of_mem {before : List Byte} {b : Byte} (hbefore : ∀ x ∈ before, x ∈ prefixBytes)
    (hb : b ∈ [(0xF2 : Byte), 0xF3]) (p : Prefixes) (rest : List Byte) :
    (scanPrefixes p (before ++ b :: rest)).1.rep = true := by
  induction before generalizing p with
  | nil =>
    have add : p.add b = some { p with rep := true } := by
      simp only [List.mem_cons, List.not_mem_nil, or_false] at hb
      rcases hb with rfl | rfl <;> rfl
    simp only [List.nil_append, scanPrefixes, add]
    exact scanPrefixes_rep rfl rest
  | cons x before ih =>
    obtain ⟨hx, hbefore⟩ := List.forall_mem_cons.mp hbefore
    obtain ⟨p', add⟩ := p.exists_add hx
    simp only [List.cons_append, scanPrefixes, add]
    exact ih hbefore p'

theorem decode_of_rep {d : OpSize} {bs : List Byte} (h : (scanPrefixes Prefixes.none bs).1.rep = true) :
    decode d bs = .rep :=
  if_pos h

/-! #### Reserved encodings (30_encoding.md R139) -/

theorem decode_undefined {d : OpSize} {b : Byte} {bs : List Byte} (hb : b.toNat ∉ prefixCodes)
    (h : ∀ c, decodeOpcode c (b :: bs) = .undefined) : decode d (b :: bs) = .undefined := by
  simp [decode, scanPrefixes, Prefixes.add_eq_none _ hb, h, Prefixes.none, Parse.bind]

section
variable {bs : List Byte}

theorem parse8_of_length (h : 1 ≤ bs.length) : ∃ v, parse8 bs = .done v (bs.drop 1) := by
  match bs, h with
  | b :: _, _ => exact ⟨b, rfl⟩

theorem parse16_of_length (h : 2 ≤ bs.length) : ∃ v, parse16 bs = .done v (bs.drop 2) := by
  match bs, h with
  | b0 :: b1 :: _, _ => exact ⟨word16 b0 b1, rfl⟩

theorem parse32_of_length (h : 4 ≤ bs.length) : ∃ v, parse32 bs = .done v (bs.drop 4) := by
  match bs, h with
  | b0 :: b1 :: b2 :: b3 :: _, _ => exact ⟨word32 b0 b1 b2 b3, rfl⟩

theorem parseDisp16_of_length (mod : BitVec 2) (h : 2 ≤ bs.length) : ∃ v rest, parseDisp16 mod bs = .done v rest := by
  obtain ⟨v, hv⟩ := parse8_of_length (bs := bs) (by omega)
  obtain ⟨w, hw⟩ := parse16_of_length h
  unfold parseDisp16
  split_ifs <;> simp [hv, hw]

theorem parseDisp32_of_length (mod : BitVec 2) (h : 4 ≤ bs.length) : ∃ v rest, parseDisp32 mod bs = .done v rest := by
  obtain ⟨v, hv⟩ := parse8_of_length (bs := bs) (by omega)
  obtain ⟨w, hw⟩ := parse32_of_length h
  unfold parseDisp32
  split_ifs <;> simp [hv, hw]

theorem parseSib_of_length (mod : BitVec 2) (b : Byte) (h : 4 ≤ bs.length) :
    ∃ e rest, parseSib mod b bs = .done e rest := by
  obtain ⟨v, hv⟩ := parse32_of_length h
  obtain ⟨w, rest, hw⟩ := parseDisp32_of_length mod h
  unfold parseSib
  split_ifs <;> simp [hv, hw]

theorem parseEA16_of_length (mod : BitVec 2) (rm : BitVec 3) (h : 2 ≤ bs.length) :
    ∃ e rest, parseEA16 mod rm bs = .done e rest := by
  obtain ⟨v, hv⟩ := parse16_of_length h
  obtain ⟨w, rest, hw⟩ := parseDisp16_of_length mod h
  unfold parseEA16
  split_ifs <;> simp [hv, hw]

theorem parseEA32_of_length (mod : BitVec 2) (rm : BitVec 3) (h : 5 ≤ bs.length) :
    ∃ e rest, parseEA32 mod rm bs = .done e rest := by
  obtain ⟨b, hb⟩ := parse8_of_length (bs := bs) (by omega)
  obtain ⟨e, rest, he⟩ := parseSib_of_length mod b (bs := bs.drop 1) (by rw [List.length_drop]; omega)
  obtain ⟨v, hv⟩ := parse32_of_length (bs := bs) (by omega)
  obtain ⟨w, rest', hw⟩ := parseDisp32_of_length mod (bs := bs) (by omega)
  unfold parseEA32
  split_ifs
  · rw [hb]
    exact ⟨e, rest, he⟩
  · simp [hv]
  · simp [hw]

theorem parseModRM_register {c : Ctx} {m : Byte} (h : field76 m = 3) :
    parseModRM c (m :: bs) = .done (field53 m, .reg (field20 m)) bs := by
  simp [parseModRM, h]

/-- Five bytes after a ModR/M byte hold any operand. -/
theorem parseModRM_of_length (c : Ctx) (m : Byte) (h : 5 ≤ bs.length) :
    ∃ rm rest, parseModRM c (m :: bs) = .done (field53 m, rm) rest := by
  by_cases hm : field76 m = 3
  · exact ⟨_, _, parseModRM_register hm⟩
  · have ea : ∃ e rest, parseEA c.addr (field76 m) (field20 m) bs = .done e rest := by
      cases c.addr with
      | s16 => exact parseEA16_of_length _ _ (by omega)
      | s32 => exact parseEA32_of_length _ _ h
    obtain ⟨e, rest, he⟩ := ea
    exact ⟨_, _, by rw [parseModRM, parse8_cons, bind_done, if_neg hm, he, bind_done]⟩

end

section
variable {m : Byte} {bs : List Byte} (c : Ctx)

theorem ruleModRM_modMem_register {f16 f32 : Bool → Reg → MemOp → Instr} (h : field76 m = 3) :
    ruleModRM (modMem f16 f32) c (m :: bs) = .undefined := by
  simp [ruleModRM, parseModRM_register h, modMem]

theorem ruleGroup_modMem_register {pick : Nat → ModRule} {f16 f32 : Bool → Reg → MemOp → Instr} (h : field76 m = 3)
    (hp : pick (field53 m).toNat = modMem f16 f32) : ruleGroup pick c (m :: bs) = .undefined := by
  simp [ruleGroup, ruleModRM, parseModRM_register h, hp, modMem]

theorem ruleGroup_modUndefined {pick : Nat → ModRule} (h : 5 ≤ bs.length)
    (hp : pick (field53 m).toNat = modUndefined) : ruleGroup pick c (m :: bs) = .undefined := by
  obtain ⟨rm, rest, hrm⟩ := parseModRM_of_length c m h
  simp [ruleGroup, ruleModRM, hrm, hp, modUndefined]

end

section
variable {digit : Nat}

theorem groupFE_reserved (h : 2 ≤ digit) : groupFE digit = modUndefined := by
  match digit, h with
  | _ + 2, _ => rfl

theorem groupBA_reserved (h : digit < 4) : groupBA digit = modUndefined := by
  match digit, h with
  | 0, _ | 1, _ | 2, _ | 3, _ => rfl

theorem groupC7_reserved (h : digit ≠ 1) : groupC7 digit = modUndefined := by
  match digit, h with
  | 0, _ | _ + 2, _ => rfl
  | 1, h => exact absurd rfl h

theorem groupC7_one : groupC7 1 = modMem (fun l _ m => .cmpxchg8b l m) fun l _ m => .cmpxchg8b l m := rfl

theorem groupFF_three : groupFF 3 = modMem (fun _ _ m => .callM16x16 m) fun _ _ m => .callM16x32 m := rfl

end

/-! #### What the decoder reads

Every parser of the decoder answers something well-formed, and what it answers depends on the bytes it has read alone.
Both facts pass through `Parse.bind`, so they are stated together and proved along the tables. -/

/-- What the parser reads has the property `P`, and the bytes that it has read decide it, whatever follows them. -/
def Reads {α : Type} (P : α → Prop) (p : List Byte → Parse α) : Prop :=
  ∀ ⦃bs : List Byte⦄ ⦃a : α⦄ ⦃rest : List Byte⦄, p bs = .done a rest →
    P a ∧ ∃ used, bs = used ++ rest ∧ ∀ other, p (used ++ other) = .done a other

theorem bind_eq_done {α β : Type} {x : Parse α} {f : α → List Byte → Parse β} {b : β} {rest : List Byte}
    (h : x.bind f = .done b rest) : ∃ a mid, x = .done a mid ∧ f a mid = .done b rest := by
  cases x with
  | done a mid => exact ⟨a, mid, rfl, h⟩
  | truncated | undefined | outOfScope | rep => cases h

section
variable {α β : Type} {P : α → Prop} {Q : β → Prop} {p q : List Byte → Parse α}

theorem reads_done {a : α} (h : P a) : Reads P (Parse.done a) := by
  rintro bs _ _ ⟨⟩
  exact ⟨h, [], rfl, fun _ => rfl⟩

/-- A parser that stops on whatever bytes. -/
theorem reads_of_stop (h : ∀ bs a rest, p bs ≠ .done a rest) : Reads P p :=
  fun bs a rest hp => absurd hp (h bs a rest)

theorem reads_undefined : Reads P fun _ => .undefined := reads_of_stop fun _ _ _ => nofun

theorem reads_outOfScope (twoByte : Bool) (opcode : Nat) : Reads P fun _ => .outOfScope twoByte opcode :=
  reads_of_stop fun _ _ _ => nofun

theorem Reads.bind {f : α → List Byte → Parse β} (hp : Reads P p) (hf : ∀ a, P a → Reads Q (f a)) :
    Reads Q fun bs => (p bs).bind f := by
  intro bs b rest h
  obtain ⟨a, mid, ha, hb⟩ := bind_eq_done h
  obtain ⟨pa, used, rfl, again⟩ := hp ha
  obtain ⟨qb, used', rfl, again'⟩ := hf a pa hb
  refine ⟨qb, used ++ used', (List.append_assoc ..).symm, fun other => ?_⟩
  show (p (used ++ used' ++ other)).bind f = _
  rw [List.append_assoc, again, bind_done, again']

theorem Reads.ite {c : Prop} [Decidable c] (hp : c → Reads P p) (hq : ¬c → Reads P q) :
    Reads P fun bs => if c then p bs else q bs := by
  split_ifs with h
  · exact hp h
  · exact hq h

/-- A parser that takes one byte and goes on. -/
theorem reads_of_cons {f : Byte → List Byte → Parse α} (hnil : p [] = .truncated)
    (hcons : ∀ b bs, p (b :: bs) = f b bs) (hf : ∀ b, Reads P (f b)) : Reads P p := by
  intro bs a rest h
  cases bs with
  | nil => rw [hnil] at h; cases h
  | cons b bs =>
    rw [hcons] at h
    obtain ⟨pa, used, rfl, again⟩ := hf b h
    exact ⟨pa, b :: used, rfl, fun other => (hcons b (used ++ other)).trans (again other)⟩

end

/-! ##### Operands -/

theorem reads_parse8 : Reads (fun _ => True) parse8 :=
  reads_of_cons rfl (fun _ _ => rfl) fun _ => reads_done trivial

theorem reads_parse16 : Reads (fun _ => True) parse16 := by
  intro bs a rest h
  unfold parse16 at h
  split at h
  · next b0 b1 bs =>
    cases h
    exact ⟨trivial, [b0, b1], rfl, fun _ => rfl⟩
  · cases h

theorem reads_parse32 : Reads (fun _ => True) parse32 := by
  intro bs a rest h
  unfold parse32 at h
  split at h
  · next b0 b1 b2 b3 bs =>
    cases h
    exact ⟨trivial, [b0, b1, b2, b3], rfl, fun _ => rfl⟩
  · cases h

theorem reads_parseDisp16 (mod : BitVec 2) : Reads (fun _ => True) (parseDisp16 mod) :=
  .ite (fun _ => reads_done trivial) fun _ =>
    .ite (fun _ => reads_parse8.bind fun _ _ => reads_done trivial) fun _ => reads_parse16

theorem reads_parseDisp32 (mod : BitVec 2) : Reads (fun _ => True) (parseDisp32 mod) :=
  .ite (fun _ => reads_done trivial) fun _ =>
    .ite (fun _ => reads_parse8.bind fun _ _ => reads_done trivial) fun _ => reads_parse32

theorem Reg.ofCode_ne_esp {c : BitVec 3} (h : c ≠ 4) : Reg.ofCode c ≠ .esp := by
  revert c
  decide

/-- A SIB byte names no index ESP (30_encoding.md R125). -/
theorem wellFormed_sibIndex (base : Option Reg) (b : Byte) (d : DWord) :
    (EffAddr.a32 base (sibIndex b) d).wellFormed = true := by
  unfold sibIndex
  split_ifs with h
  · rfl
  · simpa [EffAddr.wellFormed] using Reg.ofCode_ne_esp h

theorem reads_parseSib (mod : BitVec 2) (b : Byte) : Reads (·.wellFormed = true) (parseSib mod b) :=
  .ite (fun _ => reads_parse32.bind fun _ _ => reads_done (wellFormed_sibIndex _ _ _)) fun _ =>
    (reads_parseDisp32 mod).bind fun _ _ => reads_done (wellFormed_sibIndex _ _ _)

theorem reads_parseEA16 (mod : BitVec 2) (rm : BitVec 3) : Reads (·.wellFormed = true) (parseEA16 mod rm) :=
  .ite (fun _ => reads_parse16.bind fun _ _ => reads_done rfl) fun _ =>
    (reads_parseDisp16 mod).bind fun _ _ => reads_done rfl

theorem reads_parseEA32 (mod : BitVec 2) (rm : BitVec 3) : Reads (·.wellFormed = true) (parseEA32 mod rm) :=
  .ite (fun _ => reads_parse8.bind fun b _ => reads_parseSib mod b) fun _ =>
    .ite (fun _ => reads_parse32.bind fun _ _ => reads_done rfl) fun _ =>
      (reads_parseDisp32 mod).bind fun _ _ => reads_done rfl

theorem reads_parseEA (addr : OpSize) (mod : BitVec 2) (rm : BitVec 3) :
    Reads (·.wellFormed = true) (parseEA addr mod rm) := by
  cases addr with
  | s16 => exact reads_parseEA16 mod rm
  | s32 => exact reads_parseEA32 mod rm

theorem RawRM.rm8_wellFormed (rm : RawRM) : rm.rm8.wellFormed = rm.rm.wellFormed := by
  cases rm <;> rfl

theorem reads_parseModRM (c : Ctx) : Reads (·.2.rm.wellFormed = true) (parseModRM c) :=
  reads_parse8.bind fun _ _ =>
    .ite (fun _ => reads_done rfl) fun _ => (reads_parseEA _ _ _).bind fun _ wellFormed => reads_done wellFormed

/-! ##### Rules -/

/-- The instruction is well-formed, but for a LOCK that `checkLock` has still to allow. -/
def Ctx.Admits (c : Ctx) (i : Instr) : Prop := c.lock = false → i.wellFormed = true

/-- The rule reads well-formed instructions. -/
def Rule.Sound (r : Rule) : Prop := ∀ c, Reads c.Admits (r c)

/-- After a well-formed operand the rule reads well-formed instructions. -/
def ModRule.Sound (k : ModRule) : Prop :=
  ∀ (c : Ctx) (reg : BitVec 3) (rm : RawRM), rm.rm.wellFormed = true → ∀ c', Reads c.Admits (k c reg rm c')

@[simp] theorem RM8.lockable_false (rm : RM8) : rm.lockable false = rm.wellFormed := by
  simp [RM8.lockable]

@[simp] theorem RM.lockable_false (rm : RM) : rm.lockable false = rm.wellFormed := by
  simp [RM.lockable]

section
variable {r16 r32 : Rule}

theorem rulePlain_sound {i : Instr} (h : i.wellFormed = true) : Rule.Sound (rulePlain i) :=
  fun _ => reads_done fun _ => h

theorem ruleSized_sound (h16 : Rule.Sound r16) (h32 : Rule.Sound r32) : Rule.Sound (ruleSized r16 r32)
  | ⟨_, _, .s16, _⟩ => h16 _
  | ⟨_, _, .s32, _⟩ => h32 _

theorem ruleIb_sound {f : Byte → Instr} (h : ∀ v, (f v).wellFormed = true) : Rule.Sound (ruleIb f) :=
  fun _ => reads_parse8.bind fun v _ => reads_done fun _ => h v

theorem ruleIw_sound {f : Word → Instr} (h : ∀ v, (f v).wellFormed = true) : Rule.Sound (ruleIw f) :=
  fun _ => reads_parse16.bind fun v _ => reads_done fun _ => h v

theorem ruleId_sound {f : DWord → Instr} (h : ∀ v, (f v).wellFormed = true) : Rule.Sound (ruleId f) :=
  fun _ => reads_parse32.bind fun v _ => reads_done fun _ => h v

theorem ruleCd_sound {f : Word → Word → Instr} (h : ∀ sel off, (f sel off).wellFormed = true) :
    Rule.Sound (ruleCd f) :=
  fun _ => reads_parse16.bind fun off _ => reads_parse16.bind fun sel _ => reads_done fun _ => h sel off

theorem ruleCp_sound {f : Word → DWord → Instr} (h : ∀ sel off, (f sel off).wellFormed = true) :
    Rule.Sound (ruleCp f) :=
  fun _ => reads_parse32.bind fun off _ => reads_parse16.bind fun sel _ => reads_done fun _ => h sel off

theorem ruleString_sound {f : OpSize → SegReg → Instr} (h : ∀ a g, (f a g).wellFormed = true) :
    Rule.Sound (ruleString f) :=
  fun _ => reads_done fun _ => h _ _

theorem ruleModRM_sound {k : ModRule} (h : ModRule.Sound k) : Rule.Sound (ruleModRM k) :=
  fun c => (reads_parseModRM c).bind fun _ wellFormed => h c _ _ wellFormed c

theorem ruleGroup_sound {pick : Nat → ModRule} (h : ∀ digit, ModRule.Sound (pick digit)) :
    Rule.Sound (ruleGroup pick) :=
  ruleModRM_sound fun c reg rm wellFormed c' => h reg.toNat c reg rm wellFormed c'

end

theorem mod8_sound {f : Bool → Reg8 → RM8 → Instr} (h : ∀ r rm, (f false r rm).wellFormed = rm.wellFormed) :
    ModRule.Sound (mod8 f) := by
  intro c reg rm wellFormed c'
  refine reads_done fun unlocked => ?_
  rw [unlocked, h, rm.rm8_wellFormed, wellFormed]

theorem mod8Ib_sound {f : Bool → RM8 → Byte → Instr} (h : ∀ rm v, (f false rm v).wellFormed = rm.wellFormed) :
    ModRule.Sound (mod8Ib f) := by
  intro c reg rm wellFormed c'
  refine reads_parse8.bind fun v _ => reads_done fun unlocked => ?_
  rw [unlocked, h, rm.rm8_wellFormed, wellFormed]

theorem modV_sound {f16 f32 : Bool → Reg → RM → Instr} (h16 : ∀ r rm, (f16 false r rm).wellFormed = rm.wellFormed)
    (h32 : ∀ r rm, (f32 false r rm).wellFormed = rm.wellFormed) : ModRule.Sound (modV f16 f32) := by
  rintro ⟨lock, seg, size, addr⟩ reg rm wellFormed c'
  cases size with
  | s16 => exact reads_done fun unlocked => by rw [unlocked, h16, wellFormed]
  | s32 => exact reads_done fun unlocked => by rw [unlocked, h32, wellFormed]

theorem modVIb_sound {f16 f32 : Bool → RM → Byte → Instr} (h16 : ∀ rm v, (f16 false rm v).wellFormed = rm.wellFormed)
    (h32 : ∀ rm v, (f32 false rm v).wellFormed = rm.wellFormed) : ModRule.Sound (modVIb f16 f32) := by
  rintro ⟨lock, seg, size, addr⟩ reg rm wellFormed c'
  cases size with
  | s16 => exact reads_parse8.bind fun v _ => reads_done fun unlocked => by rw [unlocked, h16, wellFormed]
  | s32 => exact reads_parse8.bind fun v _ => reads_done fun unlocked => by rw [unlocked, h32, wellFormed]

theorem modVIv_sound {f16 : Bool → RM → Word → Instr} {f32 : Bool → RM → DWord → Instr}
    (h16 : ∀ rm v, (f16 false rm v).wellFormed = rm.wellFormed)
    (h32 : ∀ rm v, (f32 false rm v).wellFormed = rm.wellFormed) : ModRule.Sound (modVIv f16 f32) := by
  rintro ⟨lock, seg, size, addr⟩ reg rm wellFormed c'
  cases size with
  | s16 => exact reads_parse16.bind fun v _ => reads_done fun unlocked => by rw [unlocked, h16, wellFormed]
  | s32 => exact reads_parse32.bind fun v _ => reads_done fun unlocked => by rw [unlocked, h32, wellFormed]

theorem modMem_sound {f16 f32 : Bool → Reg → MemOp → Instr} (h16 : ∀ r m, (f16 false r m).wellFormed = m.wellFormed)
    (h32 : ∀ r m, (f32 false r m).wellFormed = m.wellFormed) : ModRule.Sound (modMem f16 f32) := by
  rintro ⟨lock, seg, size, addr⟩ reg rm wellFormed c'
  cases rm with
  | reg code => exact reads_undefined
  | mem m =>
    have wellFormed : m.wellFormed = true := wellFormed
    cases size with
    | s16 => exact reads_done fun unlocked => by rw [unlocked, h16, wellFormed]
    | s32 => exact reads_done fun unlocked => by rw [unlocked, h32, wellFormed]

theorem modUndefined_sound : ModRule.Sound modUndefined := fun _ _ _ _ _ => reads_undefined

theorem modOutOfScope_sound (twoByte : Bool) (opcode : Nat) : ModRule.Sound (modOutOfScope twoByte opcode) :=
  fun _ _ _ _ _ => reads_outOfScope twoByte opcode

theorem regRM_sound {f16 f32 : Reg → RM → Instr}
    (h : ∀ r rm, (f16 r rm).wellFormed = rm.wellFormed ∧ (f32 r rm).wellFormed = rm.wellFormed) :
    Rule.Sound (regRM f16 f32) :=
  ruleModRM_sound (modV_sound (fun r rm => (h r rm).1) fun r rm => (h r rm).2)

theorem rmReg_sound {f16 f32 : Bool → RM → Reg → Instr}
    (h : ∀ rm r, (f16 false rm r).wellFormed = rm.wellFormed ∧ (f32 false rm r).wellFormed = rm.wellFormed) :
    Rule.Sound (rmReg f16 f32) :=
  ruleModRM_sound (modV_sound (fun r rm => (h rm r).1) fun r rm => (h rm r).2)

/-! ##### Tables -/

/-- The forms of an operation are well-formed with a well-formed operand and without LOCK. -/
structure AluForms.Sound (f : AluForms) : Prop where
  alIb : ∀ v, (f.alIb v).wellFormed = true
  axIw : ∀ v, (f.axIw v).wellFormed = true
  eaxId : ∀ v, (f.eaxId v).wellFormed = true
  rm8Ib : ∀ rm v, (f.rm8Ib false rm v).wellFormed = rm.wellFormed
  rm16Iw : ∀ rm v, (f.rm16Iw false rm v).wellFormed = rm.wellFormed
  rm32Id : ∀ rm v, (f.rm32Id false rm v).wellFormed = rm.wellFormed
  rm16Ib : ∀ rm v, (f.rm16Ib false rm v).wellFormed = rm.wellFormed
  rm32Ib : ∀ rm v, (f.rm32Ib false rm v).wellFormed = rm.wellFormed
  rm8R8 : ∀ r rm, (f.rm8R8 false rm r).wellFormed = rm.wellFormed
  rm16R16 : ∀ r rm, (f.rm16R16 false rm r).wellFormed = rm.wellFormed
  rm32R32 : ∀ r rm, (f.rm32R32 false rm r).wellFormed = rm.wellFormed
  r8Rm8 : ∀ r rm, (f.r8Rm8 r rm).wellFormed = rm.wellFormed
  r16Rm16 : ∀ r rm, (f.r16Rm16 r rm).wellFormed = rm.wellFormed
  r32Rm32 : ∀ r rm, (f.r32Rm32 r rm).wellFormed = rm.wellFormed

theorem addForms_sound : addForms.Sound := by
  constructor <;> simp [addForms, Instr.wellFormed]

theorem adcForms_sound : adcForms.Sound := by
  constructor <;> simp [adcForms, Instr.wellFormed]

theorem andForms_sound : andForms.Sound := by
  constructor <;> simp [andForms, Instr.wellFormed]

theorem cmpForms_sound : cmpForms.Sound := by
  constructor <;> simp [cmpForms, Instr.wellFormed]

/-- Every rule of the table reads well-formed instructions. -/
def RowsSound (rows : List (Byte × Rule)) : Prop := ∀ row ∈ rows, Rule.Sound row.2

theorem rowsSound_nil : RowsSound [] := nofun

theorem RowsSound.cons {b : Byte} {r : Rule} {rows : List (Byte × Rule)} (h : Rule.Sound r) (hs : RowsSound rows) :
    RowsSound ((b, r) :: rows) :=
  List.forall_mem_cons.mpr ⟨h, hs⟩

theorem RowsSound.append {rows rows' : List (Byte × Rule)} (h : RowsSound rows) (h' : RowsSound rows') :
    RowsSound (rows ++ rows') :=
  List.forall_mem_append.mpr ⟨h, h'⟩

theorem AluForms.Sound.rows {f : AluForms} (h : f.Sound) (xx : Byte) : RowsSound (f.rows xx) :=
  .cons (ruleModRM_sound (mod8_sound h.rm8R8)) <|
  .cons (ruleModRM_sound (modV_sound h.rm16R16 h.rm32R32)) <|
  .cons (ruleModRM_sound (mod8_sound h.r8Rm8)) <|
  .cons (ruleModRM_sound (modV_sound h.r16Rm16 h.r32Rm32)) <|
  .cons (ruleIb_sound h.alIb) <|
  .cons (ruleSized_sound (ruleIw_sound h.axIw) (ruleId_sound h.eaxId)) rowsSound_nil

theorem plusR_sound {opcode : Byte} {k : Reg → Rule} (h : ∀ r, Rule.Sound (k r)) : RowsSound (plusR opcode k) := by
  simp [RowsSound, plusR, h]

theorem immGroup_sound {opcode : Nat} {k : AluForms → ModRule} (h : ∀ f : AluForms, f.Sound → ModRule.Sound (k f))
    (digit : Nat) : ModRule.Sound (immGroup opcode k digit) := by
  unfold immGroup
  split
  · exact h _ addForms_sound
  · exact h _ adcForms_sound
  · exact h _ andForms_sound
  · exact h _ cmpForms_sound
  · exact modOutOfScope_sound _ _

theorem groupF6_sound (digit : Nat) : ModRule.Sound (groupF6 digit) := by
  unfold groupF6
  split
  · exact mod8_sound fun _ _ => rfl
  · exact modOutOfScope_sound _ _

theorem groupF7_sound (digit : Nat) : ModRule.Sound (groupF7 digit) := by
  unfold groupF7
  split
  · exact modV_sound (fun _ _ => rfl) fun _ _ => rfl
  · exact modOutOfScope_sound _ _

theorem groupFE_sound (digit : Nat) : ModRule.Sound (groupFE digit) := by
  unfold groupFE
  split
  · exact mod8_sound fun _ rm => rm.lockable_false
  · exact modOutOfScope_sound _ _
  · exact modUndefined_sound

theorem groupFF_sound (digit : Nat) : ModRule.Sound (groupFF digit) := by
  unfold groupFF
  split
  · exact modV_sound (fun _ rm => rm.lockable_false) fun _ rm => rm.lockable_false
  · exact modV_sound (fun _ _ => rfl) fun _ _ => rfl
  · exact modMem_sound (fun _ _ => rfl) fun _ _ => rfl
  · exact modUndefined_sound
  · exact modOutOfScope_sound _ _

theorem groupBA_sound (digit : Nat) : ModRule.Sound (groupBA digit) := by
  unfold groupBA
  split
  · exact modVIb_sound (fun _ _ => rfl) fun _ _ => rfl
  · exact modVIb_sound (fun rm _ => rm.lockable_false) fun rm _ => rm.lockable_false
  · exact modVIb_sound (fun rm _ => rm.lockable_false) fun rm _ => rm.lockable_false
  · exact modVIb_sound (fun rm _ => rm.lockable_false) fun rm _ => rm.lockable_false
  · exact modUndefined_sound

theorem groupC7_sound (digit : Nat) : ModRule.Sound (groupC7 digit) := by
  unfold groupC7
  split
  · exact modMem_sound (fun _ _ => rfl) fun _ _ => rfl
  · exact modUndefined_sound

theorem rowsSound_oneByteRows : RowsSound oneByteRows := by
  have decR (r : Reg) : Rule.Sound (ruleSized (rulePlain (.decR16 r)) (rulePlain (.decR32 r))) :=
    ruleSized_sound (rulePlain_sound rfl) (rulePlain_sound rfl)
  refine .append (.append (.append (.append (.append (.append
    (addForms_sound.rows _) (adcForms_sound.rows _)) (andForms_sound.rows _)) (cmpForms_sound.rows _)) ?adjust)
    (plusR_sound decR)) ?others
  case adjust =>
    exact .cons (rulePlain_sound rfl) <| .cons (rulePlain_sound rfl) <| .cons (rulePlain_sound rfl) <|
      .cons (rulePlain_sound rfl) rowsSound_nil
  case others =>
    exact
      .cons (ruleModRM_sound (modMem_sound (fun _ _ => rfl) fun _ _ => rfl)) <|
      .cons (ruleModRM_sound (modV_sound (fun _ _ => rfl) fun _ _ => rfl)) <|
      .cons (ruleGroup_sound (immGroup_sound fun _ h => mod8Ib_sound h.rm8Ib)) <|
      .cons (ruleGroup_sound (immGroup_sound fun _ h => modVIv_sound h.rm16Iw h.rm32Id)) <|
      .cons (ruleGroup_sound (immGroup_sound fun _ h => modVIb_sound h.rm16Ib h.rm32Ib)) <|
      .cons (ruleSized_sound (rulePlain_sound rfl) (rulePlain_sound rfl)) <|
      .cons (ruleSized_sound (rulePlain_sound rfl) (rulePlain_sound rfl)) <|
      .cons (ruleSized_sound (ruleCd_sound fun _ _ => rfl) (ruleCp_sound fun _ _ => rfl)) <|
      .cons (ruleString_sound fun _ _ => rfl) <|
      .cons (ruleSized_sound (ruleString_sound fun _ _ => rfl) (ruleString_sound fun _ _ => rfl)) <|
      .cons (ruleIb_sound fun _ => rfl) <| .cons (ruleIb_sound fun _ => rfl) <|
      .cons (ruleSized_sound (ruleIw_sound fun _ => rfl) (ruleId_sound fun _ => rfl)) <|
      .cons (rulePlain_sound rfl) <| .cons (ruleGroup_sound groupF6_sound) <|
      .cons (ruleGroup_sound groupF7_sound) <| .cons (rulePlain_sound rfl) <| .cons (rulePlain_sound rfl) <|
      .cons (rulePlain_sound rfl) <| .cons (ruleGroup_sound groupFE_sound) <|
      .cons (ruleGroup_sound groupFF_sound) rowsSound_nil

theorem rowsSound_twoByteRows : RowsSound twoByteRows := by
  have bswap (r : Reg) : Rule.Sound fun c bs => .done (.bswap c.size r) bs := fun _ => reads_done fun _ => rfl
  refine .append ?_ (plusR_sound bswap)
  refine .cons (rulePlain_sound rfl) ?_
  iterate 16 refine .cons (regRM_sound fun _ _ => ⟨rfl, rfl⟩) ?_
  exact
    .cons (rulePlain_sound rfl) <|
    .cons (rmReg_sound fun _ _ => ⟨rfl, rfl⟩) <|
    .cons (rmReg_sound fun rm _ => ⟨rm.lockable_false, rm.lockable_false⟩) <|
    .cons (ruleModRM_sound (mod8_sound fun _ rm => rm.lockable_false)) <|
    .cons (rmReg_sound fun rm _ => ⟨rm.lockable_false, rm.lockable_false⟩) <|
    .cons (rmReg_sound fun rm _ => ⟨rm.lockable_false, rm.lockable_false⟩) <|
    .cons (ruleGroup_sound groupBA_sound) <|
    .cons (rmReg_sound fun rm _ => ⟨rm.lockable_false, rm.lockable_false⟩) <|
    .cons (regRM_sound fun _ _ => ⟨rfl, rfl⟩) <|
    .cons (regRM_sound fun _ _ => ⟨rfl, rfl⟩) <|
    .cons (ruleGroup_sound groupC7_sound) rowsSound_nil

/-! ##### The decoder -/

theorem reads_lookup {rows : List (Byte × Rule)} (h : RowsSound rows) (twoByte : Bool) (c : Ctx) (b : Byte) :
    Reads c.Admits fun bs =>
      match rows.lookup b with
      | some r => r c bs
      | none => .outOfScope twoByte b.toNat := by
  cases hr : rows.lookup b with
  | none => exact reads_outOfScope _ _
  | some r =>
    obtain ⟨before, after, rfl, -⟩ := List.lookup_eq_some_iff.mp hr
    exact h (b, r) (by simp) c

theorem reads_decodeOpcode (c : Ctx) : Reads c.Admits (decodeOpcode c) :=
  reads_of_cons rfl (fun _ _ => rfl) fun b =>
    .ite (fun _ => reads_of_cons rfl (fun _ _ => rfl) fun b2 => reads_lookup rowsSound_twoByteRows true c b2)
      fun _ => reads_lookup rowsSound_oneByteRows false c b

theorem reads_checkLock {c : Ctx} {i : Instr} (h : c.Admits i) : Reads (·.wellFormed = true) (checkLock c i) := by
  refine .ite (fun _ => reads_undefined) fun legal => reads_done ?_
  cases hc : c.lock with
  | false => exact h hc
  | true =>
    rw [hc] at legal
    exact (not_not.mp fun illegal => legal ⟨rfl, illegal⟩).2

/-- Scanning takes the prefixes off the front, and which they are does not depend on what follows them. -/
theorem scanPrefixes_append {p p' : Prefixes} {bs tail : List Byte} (h : scanPrefixes p bs = (p', tail)) :
    ∃ front, bs = front ++ tail ∧ ∀ other, scanPrefixes p (front ++ other) = scanPrefixes p' other := by
  induction bs generalizing p with
  | nil =>
    cases h
    exact ⟨[], rfl, fun _ => rfl⟩
  | cons b bs ih =>
    rw [scanPrefixes] at h
    split at h
    · next q hq =>
      obtain ⟨front, rfl, again⟩ := ih h
      exact ⟨b :: front, rfl, fun other => by simpa only [List.cons_append, scanPrefixes, hq] using again other⟩
    · cases h
      exact ⟨[], rfl, fun _ => rfl⟩

theorem decode_of_scan {d : OpSize} {p : Prefixes} {bs tail : List Byte} (hp : p.rep = false)
    (h : scanPrefixes Prefixes.none bs = (p, tail)) :
    decode d bs = (decodeOpcode (p.ctx d) tail).bind (checkLock (p.ctx d)) := by
  simp [decode, h, hp]

theorem reads_decode (d : OpSize) : Reads (·.wellFormed = true) (decode d) := by
  intro bs i rest h
  rcases hscan : scanPrefixes Prefixes.none bs with ⟨p, tail⟩
  have hp : p.rep = false := by
    by_contra hp
    have rep : decode d bs = .rep := if_pos (by simpa [hscan] using hp)
    cases rep.symm.trans h
  rw [decode_of_scan hp hscan] at h
  have parser : Reads (·.wellFormed = true) fun bs => (decodeOpcode (p.ctx d) bs).bind (checkLock (p.ctx d)) :=
    (reads_decodeOpcode _).bind fun _ => reads_checkLock
  obtain ⟨wellFormed, used, rfl, again⟩ := parser h
  obtain ⟨front, rfl, scanAgain⟩ := scanPrefixes_append hscan
  refine ⟨wellFormed, front ++ used, (List.append_assoc ..).symm, fun other => ?_⟩
  obtain ⟨j, mid, opcode, -⟩ := bind_eq_done (again other)
  rw [List.append_assoc, decode_of_scan hp ((scanAgain _).trans (scanPrefixes_of_done opcode p))]
  exact again other

end Sys2Proof

section

open Sys2Proof

/-- Settles O2: the prefixes make the context that the opcode and the operands are read back in, LOCK included. -/
theorem decodeInvertsEncode : Obligations.DecodeInvertsEncode := by
  intro d i
  obtain ⟨least, most⟩ := Laws.encode_length d i
  exact ⟨least, most, fun h => decode_encode h d⟩

/-- Settles O3: every rule of the tables reads a well-formed instruction, and no rule looks past what it reads. -/
theorem decoderReadsOneWellFormedInstruction : Obligations.DecoderReadsOneWellFormedInstruction := by
  intro d bs rest i h
  obtain ⟨wellFormed, used, hbs, again⟩ := reads_decode d h
  refine ⟨wellFormed, used, ?_, hbs, again⟩
  rintro rfl
  have empty : decode d [] = .truncated := rfl
  cases empty.symm.trans (again [])

/-- Settles O4: F2H and F3H are recorded where they are scanned, and none of the later prefixes takes that back. -/
theorem repeatPrefixIsRefused : Obligations.RepeatPrefixIsRefused := by
  intro d before rest b hbefore hb
  exact decode_of_rep (scanPrefixes_rep_of_mem hbefore hb Prefixes.none rest)

/-- Settles O5: the ModR/M operand is read, and its row or the row of its digit is undefined. -/
theorem reservedEncodingsAreUndefined : Obligations.ReservedEncodingsAreUndefined := by
  intro d m rest length
  refine ⟨fun register => decode_undefined (by decide) fun c => ?bound,
    fun register => decode_undefined (by decide) fun c => ?c7Register,
    fun register digit => decode_undefined (by decide) fun c => ?ffRegister,
    fun digit => decode_undefined (by decide) fun c => ?ff, fun digit => decode_undefined (by decide) fun c => ?fe,
    fun digit => decode_undefined (by decide) fun c => ?ba, fun digit => decode_undefined (by decide) fun c => ?c7⟩
  case bound => exact (decodeOpcode_row (by decide) rfl).trans (ruleModRM_modMem_register c register)
  case c7Register =>
    refine (decodeOpcode_row2 rfl).trans ?_
    by_cases digit : (field53 m).toNat = 1
    · exact ruleGroup_modMem_register c register (digit ▸ groupC7_one)
    · exact ruleGroup_modUndefined c length (groupC7_reserved digit)
  case ffRegister =>
    refine (decodeOpcode_row (by decide) rfl).trans ?_
    exact ruleGroup_modMem_register c register ((congrArg (groupFF ·.toNat) digit).trans groupFF_three)
  case ff =>
    refine (decodeOpcode_row (by decide) rfl).trans ?_
    exact ruleGroup_modUndefined c length (congrArg (groupFF ·.toNat) digit)
  case fe => exact (decodeOpcode_row (by decide) rfl).trans (ruleGroup_modUndefined c length (groupFE_reserved digit))
  case ba => exact (decodeOpcode_row2 rfl).trans (ruleGroup_modUndefined c length (groupBA_reserved digit))
  case c7 =>
    refine (decodeOpcode_row2 rfl).trans (ruleGroup_modUndefined c length (groupC7_reserved fun one => digit ?_))
    exact BitVec.eq_of_toNat_eq one

/-- Settles O1: the decoder evaluates each word to its instruction. -/
theorem selectedEncodingsDecode : Obligations.SelectedEncodingsDecode := by
  unfold Obligations.SelectedEncodingsDecode
  decide

end

/-! ## Settling the statements about decimal adjustment (40_bcd_adjust.md)

Each of the six instructions checks the NaT bit of EAX and then goes on to `State.adjusted`: a new AX or AL, new status
flags and one free value. What is left for each of them is arithmetic on bytes. -/

namespace Sys2Proof.Machine

open Sys2Proof.Claims

/-! ### Writing an operand (10_state.md R31, R32) -/

theorem byteOf_eq (v : DWord) (high : Bool) : byteOf v high = v.extractLsb' (if high then 8 else 0) 8 := by
  cases high <;> rfl

theorem extractLsb'_withByte_high (old : DWord) (high : Bool) (v : Byte) :
    (withByte old high v).extractLsb' 16 16 = old.extractLsb' 16 16 := by
  cases high with
  | false =>
    rw [withByte, BitVec.extractLsb'_append_eq_of_le (by decide)]
    ext i hi
    simp [show 8 + (8 + i) = 16 + i by omega]
    omega
  | true =>
    rw [withByte, BitVec.extractLsb'_append_eq_of_le (by decide), BitVec.extractLsb'_append_eq_of_le (by decide)]
    exact BitVec.extractLsb'_eq_self

section
variable {s u : State} (h : u.regs = s.regs)
include h

theorem othersKept_set {t : State} {r : Reg} {v : DWord} (ht : t.regs = u.regs.set r v) : OthersKept r s t := by
  intro q hq
  rw [State.reg32, State.reg32, ht, RegFile.get_set_other _ _ _ _ hq, h]

/-- Writing an operand writes its part of a register, whatever else has changed outside the registers. -/
theorem registersWritten_poke {w : Nat} (p : Place w) (addrs : List Nat) (v : BitVec w) :
    RegistersWritten p v s (u.poke p addrs v) := by
  cases p with
  | r8 r =>
    have low : (if r.high then 0 else 8) = if !r.high then 8 else 0 := by cases r.high <;> rfl
    refine ⟨?_, ?_, ?_, othersKept_set h rfl⟩
    · rw [← byteOf_eq]
      simp [State.reg32, State.poke, byteOf_withByte]
    · rw [low, ← byteOf_eq, ← byteOf_eq]
      simp [State.reg32, State.poke, byteOf_withByte_other, h]
    · simp [State.reg32, State.poke, extractLsb'_withByte_high, h]
  | r16 r =>
    refine ⟨?_, ?_, othersKept_set h rfl⟩
    · simp [State.reg32, State.poke, extractLsb'_withWord]
    · simp [State.reg32, State.poke, extractLsb'_withWord_high, h]
  | r32 r => exact ⟨by simp [State.reg32, State.poke], othersKept_set h rfl⟩
  | mem m =>
    have kept : (u.store addrs v).regs = u.regs := by rw [State.store_eq]
    exact kept.trans h

end

/-! ### The flags of a result (10_state.md R46, R48, R49) -/

theorem evenParity_iff (b : Byte) :
    evenParity b = true ↔ ((List.range 8).countP fun k => b.getLsbD k) % 2 = 0 := by
  have bits : ∀ b0 b1 b2 b3 b4 b5 b6 b7 : Bool, (!(b0 ^^ b1 ^^ b2 ^^ b3 ^^ b4 ^^ b5 ^^ b6 ^^ b7)) = true ↔
      [b0, b1, b2, b3, b4, b5, b6, b7].countP id % 2 = 0 := by decide
  exact bits _ _ _ _ _ _ _ _

theorem parityFlag_iff {w : Nat} (r : BitVec w) :
    parityFlag r = true ↔ ((List.range 8).countP fun k => r.getLsbD k) % 2 = 0 := by
  have low : (List.range 8).countP (fun k => (r.setWidth 8).getLsbD k) = (List.range 8).countP fun k => r.getLsbD k :=
    List.countP_congr fun k hk => by simp [List.mem_range.mp hk]
  rw [parityFlag, evenParity_iff, low]

theorem resultFlags_of {w : Nat} {f : StatusFlags} {r : BitVec w} (hpf : f.pf = parityFlag r) (hzf : f.zf = (r == 0))
    (hsf : f.sf = r.msb) : ResultFlags f r :=
  ⟨by rw [hpf, parityFlag_iff], by rw [hzf, beq_iff_eq], by rw [hsf, BitVec.msb_eq_getLsbD_last]⟩

/-! ### NaT bits (60_exceptions.md R362) -/

theorem checkNat_bind_of_readable {α : Type} {s : State} {rs : List Reg} (h : Readable s rs) (f : Unit → Result α) :
    (s.checkNat rs >>= f) = f () := by
  have passed : s.checkNat rs = .ok () := State.checkNat_eq_ok.mpr h
  rw [passed, ok_bind]

theorem checkNat_bind_of_nat {s : State} {rs : List Reg} {r : Reg} (he : s.itaniumSE = true) (hr : r ∈ rs)
    (hn : s.nat.get r = true) (f : Unit → Result State) :
    toOutcome (s.checkNat rs >>= f) = .fault (.itanium .natConsumption s.pc none) := by
  have set : (s.itaniumSE && rs.any fun r => s.nat.get r) = true := by
    rw [he, Bool.true_and, List.any_eq_true]
    exact ⟨r, hr, hn⟩
  rw [State.checkNat, set]
  rfl

/-! ### The state that an adjustment goes on to -/

/-- A new value of AX or AL, new status flags, one free value drawn, and on to the next instruction. -/
def State.adjusted (s : State) {w : Nat} (p : Place w) (v : BitVec w) (f : StatusFlags) : State :=
  (((s.setStatus f).drew 1).poke p [] v).advance

section
variable (s : State) {w : Nat} (p : Place w) (v : BitVec w) (f : StatusFlags)

theorem completed_adjusted : Completed 1 s (s.adjusted p v f) := by
  unfold State.adjusted
  refine ⟨by simp, ?_, ?_⟩
  · rw [State.poke_eq]
    rfl
  · rw [State.poke_eq]
    rfl

theorem adjusted_status : (s.adjusted p v f).status = f := by
  rw [State.adjusted, State.poke_eq]
  rfl

theorem registersWritten_adjusted : RegistersWritten p v s (s.adjusted p v f) := by
  have written : RegistersWritten p v s (((s.setStatus f).drew 1).poke p [] v) := registersWritten_poke (by rfl) p [] v
  cases p <;> exact written

theorem memoryKept_adjusted (h : ∀ m, p ≠ .mem m) : MemoryKept s (s.adjusted p v f) := by
  cases p with
  | r8 | r16 | r32 => exact ⟨rfl, rfl⟩
  | mem m => exact absurd rfl (h m)

end

section
variable {s : State} (h : Readable s [.eax])
include h

theorem exec_aaa : exec .aaa s = .next (s.adjusted (.r16 .eax)
    (aaaResult s.cfg.bcdVariant (s.reg16 .eax) s.status.af) (asciiFlags (adjusts (s.reg8 .al) s.status.af) s.fresh)) :=
  congrArg toOutcome (checkNat_bind_of_readable h _)

theorem exec_aas : exec .aas s = .next (s.adjusted (.r16 .eax)
    (aasResult s.cfg.bcdVariant (s.reg16 .eax) s.status.af) (asciiFlags (adjusts (s.reg8 .al) s.status.af) s.fresh)) :=
  congrArg toOutcome (checkNat_bind_of_readable h _)

theorem exec_aad (imm : Byte) : exec (.aad imm) s = .next (s.adjusted (.r16 .eax)
    ((0 : Byte) ++ (s.reg8 .al + s.reg8 .ah * imm)) (unpackedFlags (s.reg8 .al + s.reg8 .ah * imm) s.fresh)) :=
  congrArg toOutcome (checkNat_bind_of_readable h _)

theorem exec_aam {imm : Byte} (hi : imm ≠ 0) : exec (.aam imm) s = .next (s.adjusted (.r16 .eax)
    ((s.reg8 .al / imm) ++ (s.reg8 .al % imm)) (unpackedFlags (s.reg8 .al % imm) s.fresh)) := by
  have nonzero : (imm == 0) = false := beq_false_of_ne hi
  have rest : execAam imm s = toOutcome (stopIf (imm == 0) (s.raise .de) >>= _) :=
    congrArg toOutcome (checkNat_bind_of_readable h _)
  rw [nonzero] at rest
  exact rest

theorem exec_aam_zero : exec (.aam 0) s = .fault (.exception .de none s.pc none) :=
  congrArg toOutcome (checkNat_bind_of_readable h _)

theorem exec_daa : exec .daa s = .next (s.adjusted (.r8 .al)
    (daaResult s.packed).al (packedFlags (daaResult s.packed) s.fresh)) :=
  congrArg toOutcome (checkNat_bind_of_readable h _)

theorem exec_das : exec .das s = .next (s.adjusted (.r8 .al)
    (dasResult s.cfg.bcdVariant s.packed).al (packedFlags (dasResult s.cfg.bcdVariant s.packed) s.fresh)) :=
  congrArg toOutcome (checkNat_bind_of_readable h _)

end

/-! ### AX after AAA and AAS (40_bcd_adjust.md R170, R173) -/

theorem adjusts_iff {al : Byte} {af : Bool} : adjusts al af = true ↔ 9 < al.toNat % 16 ∨ af = true := by
  rw [adjusts, Bool.or_eq_true, decide_eq_true_iff, nibble]

theorem adjusts_eq_false {al : Byte} {af : Bool} (h : ¬(9 < al.toNat % 16 ∨ af = true)) : adjusts al af = false :=
  Bool.eq_false_iff.mpr fun h' => h (adjusts_iff.mp h')

theorem reg8_al (s : State) : s.reg8 .al = lowByte (s.reg16 .eax) :=
  (BitVec.extractLsb'_extractLsb'_of_le (by decide)).symm

theorem highByte_append_lowByte (ax : Word) : highByte ax ++ lowByte ax = ax :=
  (BitVec.extractLsb'_append_extractLsb'_eq_extractLsb' rfl).trans (BitVec.extractLsb'_eq_self ..)

/-- The later editions clear the high digit of AL by a mask on AX. -/
theorem and_clear_high_digit (ax : Word) : ax &&& 0xFF0F = highByte ax ++ (lowByte ax &&& 0x0F) := by
  have mask : (0xFF0F : Word) = (BitVec.allOnes 8 : Byte) ++ (0x0F : Byte) := rfl
  conv_lhs => rw [← highByte_append_lowByte ax, mask, BitVec.and_append, BitVec.and_allOnes]

theorem highByte_sub_256 (ax : Word) : highByte (ax - 0x100) = highByte ax - 1 := by
  apply BitVec.eq_of_toNat_eq
  simp only [highByte, BitVec.extractLsb'_toNat, BitVec.toNat_sub, Nat.shiftRight_eq_div_pow, BitVec.ofNat_eq_ofNat,
    BitVec.toNat_ofNat]
  omega

theorem lowByte_sub_256 (ax : Word) : lowByte (ax - 0x100) = lowByte ax := by
  apply BitVec.eq_of_toNat_eq
  simp only [lowByte, BitVec.extractLsb'_toNat, BitVec.toNat_sub, Nat.shiftRight_zero, BitVec.ofNat_eq_ofNat,
    BitVec.toNat_ofNat]
  omega

section
variable {v : BcdVariant} {ax : Word} {af : Bool}

theorem aaaResult_of_not_adjusts (h : adjusts (lowByte ax) af = false) :
    aaaResult v ax af = highByte ax ++ (lowByte ax &&& 0x0F) := by
  simp only [aaaResult, h]

theorem aasResult_of_not_adjusts (h : adjusts (lowByte ax) af = false) :
    aasResult v ax af = highByte ax ++ (lowByte ax &&& 0x0F) := by
  simp only [aasResult, h]

theorem aaaResult_source (h : adjusts (lowByte ax) af = true) :
    aaaResult .source ax af = (highByte ax + 1) ++ ((lowByte ax + 6) &&& 0x0F) := by
  simp only [aaaResult, h]

theorem aasResult_source (h : adjusts (lowByte ax) af = true) :
    aasResult .source ax af = (highByte ax - 1) ++ ((lowByte ax - 6) &&& 0x0F) := by
  simp only [aasResult, h]

theorem aaaResult_laterEdition (h : adjusts (lowByte ax) af = true) :
    aaaResult .laterEdition ax af = (ax + 0x106) &&& 0xFF0F := by
  simp only [aaaResult, h, and_clear_high_digit]

theorem aasResult_laterEdition (h : adjusts (lowByte ax) af = true) :
    aasResult .laterEdition ax af = (ax - 6 - 0x100) &&& 0xFF0F := by
  simp only [aasResult, h, and_clear_high_digit, highByte_sub_256, lowByte_sub_256]

end

/-! ### AL after DAA and DAS (40_bcd_adjust.md R174, R175) -/

/-- Whether the low digit of AL is adjusted. -/
def Packed.Low (p : Packed) : Prop := 9 < p.al.toNat % 16 ∨ p.af = true

section
variable {p : Packed}

theorem daaLow_of_low (h : p.Low) :
    daaLow p = { al := p.al + 6, cf := p.cf || decide (0xFF < p.al.toNat + 6), af := true } := by
  rw [daaLow, adjusts_iff.mpr h]
  rfl

theorem daaLow_of_not_low (h : ¬p.Low) : daaLow p = { p with af := false } := by
  rw [daaLow, adjusts_eq_false h]

theorem dasLow_of_low (h : p.Low) :
    dasLow p = { al := p.al - 6, cf := p.cf || decide (p.al.toNat < 6), af := true } := by
  rw [dasLow, adjusts_iff.mpr h]

theorem dasLow_of_not_low (h : ¬p.Low) : dasLow p = { p with af := false } := by
  rw [dasLow, adjusts_eq_false h]

end

section
variable (p : Packed)

theorem daaLow_al : (p.Low → (daaLow p).al = p.al + 6) ∧ (¬p.Low → (daaLow p).al = p.al) :=
  ⟨fun h => by rw [daaLow_of_low h], fun h => by rw [daaLow_of_not_low h]⟩

theorem daaLow_cf : (daaLow p).cf = true ↔ p.cf = true ∨ p.Low ∧ 0xFF < p.al.toNat + 6 := by
  by_cases h : p.Low
  · simp [daaLow_of_low h, h]
  · simp [daaLow_of_not_low h, h]

theorem daaLow_af : (daaLow p).af = true ↔ p.Low := by
  by_cases h : p.Low
  · simp [daaLow_of_low h, h]
  · simp [daaLow_of_not_low h, h]

theorem dasLow_al : (p.Low → (dasLow p).al = p.al - 6) ∧ (¬p.Low → (dasLow p).al = p.al) :=
  ⟨fun h => by rw [dasLow_of_low h], fun h => by rw [dasLow_of_not_low h]⟩

theorem dasLow_cf : (dasLow p).cf = true ↔ p.cf = true ∨ p.Low ∧ p.al.toNat < 6 := by
  by_cases h : p.Low
  · simp [dasLow_of_low h, h]
  · simp [dasLow_of_not_low h, h]

theorem dasLow_af : (dasLow p).af = true ↔ p.Low := by
  by_cases h : p.Low
  · simp [dasLow_of_low h, h]
  · simp [dasLow_of_not_low h, h]

end

section
variable {p : Packed} {high : Prop}

theorem daaHigh_spec (h : 0x90 < (p.al &&& 0xF0).toNat ∨ p.cf = true ↔ high) :
    (high → (daaHigh p).al = p.al + 0x60) ∧ (¬high → (daaHigh p).al = p.al) ∧ ((daaHigh p).cf = true ↔ high) ∧
      (daaHigh p).af = p.af := by
  have test : (decide (0x90 < (p.al &&& 0xF0).toNat) || p.cf) = true ↔ high := by
    rw [Bool.or_eq_true, decide_eq_true_iff, h]
  unfold daaHigh
  split
  · next hc =>
    have reached : high := test.mp hc
    simp [reached]
  · next hc =>
    have missed : ¬high := fun hh => Bool.eq_false_iff.mp hc (test.mpr hh)
    simp [missed]

theorem dasHigh_spec (h : 0x9F < p.al.toNat ∨ p.cf = true ↔ high) :
    (high → (dasHigh p).al = p.al - 0x60) ∧ (¬high → (dasHigh p).al = p.al) ∧ ((dasHigh p).cf = true ↔ high) ∧
      (dasHigh p).af = p.af := by
  have test : (decide (0x9F < p.al.toNat) || p.cf) = true ↔ high := by
    rw [Bool.or_eq_true, decide_eq_true_iff, h]
  unfold dasHigh
  split
  · next hc =>
    have reached : high := test.mp hc
    simp [reached]
  · next hc =>
    have missed : ¬high := fun hh => Bool.eq_false_iff.mp hc (test.mpr hh)
    simp [missed]

end

/-- The later editions' test of the high digit, on AL and CF as they were before the low digit was adjusted. -/
def Packed.LaterHigh (p : Packed) : Prop := 0x99 < p.al.toNat ∨ p.cf = true

section
variable {p : Packed}

theorem dasLater_of_high (h : p.LaterHigh) :
    dasLater p = { dasLow p with al := (dasLow p).al - 0x60, cf := true } := by
  have test : (decide (0x99 < p.al.toNat) || p.cf) = true := by simpa [Packed.LaterHigh] using h
  simp only [dasLater, test, dasLow]
  cases adjusts p.al p.af <;> rfl

/-- Without the second step CF was clear, so that the later editions' clearing it again makes no difference. -/
theorem dasLater_of_not_high (h : ¬p.LaterHigh) : dasLater p = dasLow p := by
  have test : (decide (0x99 < p.al.toNat) || p.cf) = false := by simpa [Packed.LaterHigh] using h
  obtain ⟨-, clear⟩ := Bool.or_eq_false_iff.mp test
  simp only [dasLater, test, dasLow]
  rw [clear]

theorem dasLater_al :
    (p.LaterHigh → (dasLater p).al = (dasLow p).al - 0x60) ∧ (¬p.LaterHigh → (dasLater p).al = (dasLow p).al) :=
  ⟨fun h => by rw [dasLater_of_high h], fun h => by rw [dasLater_of_not_high h]⟩

theorem dasLater_cf :
    (dasLater p).cf = true ↔ p.LaterHigh ∨ p.Low ∧ (p.cf = true ∨ p.al.toNat < 6) := by
  by_cases h : p.LaterHigh
  · simp [dasLater_of_high h, h]
  · have clear : ¬p.cf = true := fun hcf => h (.inr hcf)
    simp [dasLater_of_not_high h, dasLow_cf, h, clear]

theorem dasLater_af : (dasLater p).af = true ↔ p.Low := by
  rw [← dasLow_af]
  by_cases h : p.LaterHigh
  · rw [dasLater_of_high h]
  · rw [dasLater_of_not_high h]

end

/-! ### The flags that follow AL (40_bcd_adjust.md R171, R172, R174, R175) -/

theorem resultFlags_unpackedFlags (al : Byte) (free : DWord) : ResultFlags (unpackedFlags al free) al :=
  resultFlags_of rfl rfl rfl

theorem resultFlags_packedFlags (p : Packed) (free : DWord) : ResultFlags (packedFlags p free) p.al :=
  resultFlags_of rfl rfl rfl

end Sys2Proof.Machine

section

open Sys2Proof Sys2Proof.Machine Sys2Proof.Claims

/-- Settles O31: AX is the model's result for the variant, and CF and AF are its test of the low digit. -/
theorem asciiAdjustAfterAddAndSubtract : Obligations.AsciiAdjustAfterAddAndSubtract := by
  refine ⟨fun z rest => ⟨decode_encode (i := .aaa) rfl z rest, decode_encode (i := .aas) rfl z rest⟩,
    fun s he hn => ?_, fun s hr => ?_⟩
  · have eax : Reg.eax ∈ [Reg.eax] := .head _
    simp only [List.forall_mem_cons]
    exact ⟨checkNat_bind_of_nat he eax hn _, checkNat_bind_of_nat he eax hn _, by simp⟩
  intro ax al ah adjust
  have test : adjusts al s.status.af = true ↔ adjust := adjusts_iff
  have flag : adjusts (s.reg8 .al) s.status.af = true ↔ adjust := reg8_al s ▸ test
  have kept : ¬adjust → adjusts al s.status.af = false := adjusts_eq_false
  constructor
  · refine ⟨_, exec_aaa hr, completed_adjusted .., memoryKept_adjusted _ _ _ _ nofun, flag, flag, fun h => ?_,
      fun h hv => ?_, fun h hv => ?_⟩
    · exact aaaResult_of_not_adjusts (kept h) ▸ registersWritten_adjusted ..
    · exact (hv ▸ aaaResult_source (test.mpr h)) ▸ registersWritten_adjusted ..
    · exact (hv ▸ aaaResult_laterEdition (test.mpr h)) ▸ registersWritten_adjusted ..
  · refine ⟨_, exec_aas hr, completed_adjusted .., memoryKept_adjusted _ _ _ _ nofun, flag, flag, fun h => ?_,
      fun h hv => ?_, fun h hv => ?_⟩
    · exact aasResult_of_not_adjusts (kept h) ▸ registersWritten_adjusted ..
    · exact (hv ▸ aasResult_source (test.mpr h)) ▸ registersWritten_adjusted ..
    · exact (hv ▸ aasResult_laterEdition (test.mpr h)) ▸ registersWritten_adjusted ..

/-- Settles O32: arithmetic on bytes is arithmetic on their numbers modulo 2^8. -/
theorem asciiAdjustForDivideAndMultiply : Obligations.AsciiAdjustForDivideAndMultiply := by
  refine ⟨fun z imm rest => ⟨decode_encode (i := .aad imm) rfl z rest, decode_encode (i := .aam imm) rfl z rest⟩,
    fun s imm he hn => ?_, fun s imm hr => ?_⟩
  · have eax : Reg.eax ∈ [Reg.eax] := .head _
    simp only [List.forall_mem_cons]
    exact ⟨checkNat_bind_of_nat he eax hn _, checkNat_bind_of_nat he eax hn _, by simp⟩
  intro al ah
  refine ⟨?_, fun hi => ?_, ?_⟩
  · have sum : BitVec.ofNat 8 (al.toNat + ah.toNat * imm.toNat) = al + ah * imm := by
      simp [BitVec.ofNat_add, BitVec.ofNat_mul]
    refine ⟨_, exec_aad hr imm, completed_adjusted .., memoryKept_adjusted _ _ _ _ nofun, ?_⟩
    rw [sum, adjusted_status]
    exact ⟨registersWritten_adjusted .., resultFlags_unpackedFlags ..⟩
  · refine ⟨_, exec_aam hr hi, completed_adjusted .., memoryKept_adjusted _ _ _ _ nofun, ?_⟩
    rw [← BitVec.udiv_def, ← BitVec.umod_def, adjusted_status]
    exact ⟨registersWritten_adjusted .., resultFlags_unpackedFlags ..⟩
  · rintro rfl
    exact exec_aam_zero hr

/-- Settles O33: the two steps of the model are the two steps of the statement, each with its test. -/
theorem decimalAdjustAfterAddAndSubtract : Obligations.DecimalAdjustAfterAddAndSubtract := by
  refine ⟨fun z rest => ⟨decode_encode (i := .daa) rfl z rest, decode_encode (i := .das) rfl z rest⟩,
    fun s he hn => ?_, fun s hr => ?_⟩
  · have eax : Reg.eax ∈ [Reg.eax] := .head _
    simp only [List.forall_mem_cons]
    exact ⟨checkNat_bind_of_nat he eax hn _, checkNat_bind_of_nat he eax hn _, by simp⟩
  intro al cf low
  refine ⟨?daa, fun hv => ?source, fun hv => ?laterEdition⟩
  case daa =>
    obtain ⟨adjusted, kept⟩ := daaLow_al s.packed
    obtain ⟨adjusted', kept', carry, aux⟩ := daaHigh_spec (or_congr_right (daaLow_cf s.packed))
    exact ⟨_, exec_daa hr, completed_adjusted .., memoryKept_adjusted _ _ _ _ nofun, _, _, adjusted, kept, adjusted',
      kept', registersWritten_adjusted .., carry, (Bool.eq_iff_iff.mp aux).trans (daaLow_af s.packed),
      resultFlags_packedFlags ..⟩
  case source =>
    have run := exec_das hr
    rw [hv] at run
    obtain ⟨adjusted, kept⟩ := dasLow_al s.packed
    obtain ⟨adjusted', kept', carry, aux⟩ := dasHigh_spec (or_congr_right (dasLow_cf s.packed))
    exact ⟨_, run, completed_adjusted .., memoryKept_adjusted _ _ _ _ nofun, _, _, adjusted, kept, adjusted',
      kept', registersWritten_adjusted .., carry, (Bool.eq_iff_iff.mp aux).trans (dasLow_af s.packed),
      resultFlags_packedFlags ..⟩
  case laterEdition =>
    have run := exec_das hr
    rw [hv] at run
    obtain ⟨adjusted, kept⟩ := dasLow_al s.packed
    obtain ⟨adjusted', kept'⟩ := dasLater_al (p := s.packed)
    exact ⟨_, run, completed_adjusted .., memoryKept_adjusted _ _ _ _ nofun, _, _, adjusted, kept, adjusted',
      kept', registersWritten_adjusted .., dasLater_cf, dasLater_af, resultFlags_packedFlags ..⟩

end

/-! ## Settling the statements about integer arithmetic and logic (41_integer_arith_logic.md)

ADC, ADD, AND and DEC pass their checks and then go on to `State.wrote`: a new destination, new status flags and the
free values drawn. CMP goes on to new status flags alone, and DIV to a quotient and a remainder in their registers. -/

namespace Sys2Proof.Machine

open Sys2Proof.Claims

/-! ### The state that a read-modify-write instruction goes on to -/

/-- A new value of the destination, new status flags, `n` free values drawn, and on to the next instruction. -/
def State.wrote (s : State) {w : Nat} (p : Place w) (addrs : List Nat) (v : BitVec w) (f : StatusFlags) (n : Nat) :
    State :=
  (((s.setStatus f).drew n).poke p addrs v).advance

section
variable (s : State) {w : Nat} (p : Place w) (addrs : List Nat) (v : BitVec w) (f : StatusFlags) (n : Nat)

theorem completed_wrote : Completed n s (s.wrote p addrs v f n) := by
  have poked := State.poke_eq ((s.setStatus f).drew n) p addrs v
  exact ⟨by simp [State.wrote], (congrArg State.nextPc poked :), (congrArg State.draws poked :)⟩

theorem wrote_status : (s.wrote p addrs v f n).status = f :=
  (congrArg State.status (State.poke_eq ((s.setStatus f).drew n) p addrs v) :)

theorem memoryWritten_wrote : MemoryWritten p addrs v s (s.wrote p addrs v f n) := by
  cases p with
  | r8 | r16 | r32 => exact ⟨rfl, rfl⟩
  | mem m => exact store_storedAt ((s.setStatus f).drew n) addrs v

theorem written_wrote : Written p addrs v s (s.wrote p addrs v f n) := by
  have registers : RegistersWritten p v s (((s.setStatus f).drew n).poke p addrs v) :=
    registersWritten_poke rfl p addrs v
  refine ⟨?_, memoryWritten_wrote s p addrs v f n⟩
  cases p <;> exact registers

end

/-! ### The flags of sums and differences (10_state.md R45 to R50) -/

section
variable {w : Nat} {a b : BitVec w}

theorem sumFlags_addFlags {c : Bool} {r : BitVec w} (hr : a + b + BitVec.ofNat w c.toNat = r) :
    SumFlags (addFlags a b c) a b c r := by
  subst hr
  refine ⟨decide_eq_true_iff, decide_eq_true_iff, ?_, resultFlags_of rfl rfl rfl⟩
  simp [addFlags, BitVec.msb_eq_getLsbD_last]

theorem differenceFlags_subFlags : DifferenceFlags (subFlags a b) a b (a - b) := by
  refine ⟨decide_eq_true_iff, decide_eq_true_iff, ?_, resultFlags_of rfl rfl rfl⟩
  simp [subFlags, BitVec.msb_eq_getLsbD_last]

theorem ofNat_toNat_carry (c : Bool) : BitVec.ofNat w c.toNat = if c then 1 else 0 := by
  cases c <;> rfl

end

/-! ### ADC, ADD and AND (41_integer_arith_logic.md R190 to R192) -/

section
variable {op : AluOp} {lock : Bool} {w : Nat} {dst : Place w} {src : Operand w} {s : State} {addrs from_ : List Nat}
  {e : Fault} (hr : Readable s (dst.regs ++ src.regs))
include hr

theorem alu_of_lock_error (hl : s.checkLockPlace (aluLock op) lock dst = .error (.fault e)) :
    alu op lock dst src s = .fault e := by
  simp only [alu, checkNat_bind_of_readable hr, hl, error_bind, toOutcome_fault]

variable (hl : s.checkLockPlace (aluLock op) lock dst = .ok ())
include hl

theorem alu_of_destination_error (hd : s.openPlace dst .write = .error (.fault e)) :
    alu op lock dst src s = .fault e := by
  simp only [alu, checkNat_bind_of_readable hr, hl, hd, ok_bind, error_bind, toOutcome_fault]

variable (hd : s.openPlace dst .write = .ok addrs)
include hd

theorem alu_of_source_error (hs : s.openOperand src = .error (.fault e)) : alu op lock dst src s = .fault e := by
  simp only [alu, checkNat_bind_of_readable hr, hl, hd, State.readOperand, hs, ok_bind, error_bind, toOutcome_fault]

/-- What ADC, ADD and AND leave once every check has passed. -/
theorem alu_completes (hs : s.openOperand src = .ok from_) :
    ∃ t, alu op lock dst src s = .next t ∧ Completed (aluDraws op) s t ∧
      Written dst addrs (aluResult op (s.peek dst addrs) (s.operand src from_) s.status.cf) s t ∧
      t.status = aluFlags op (s.peek dst addrs) (s.operand src from_) s.status.cf s.fresh :=
  ⟨s.wrote dst addrs _ _ (aluDraws op),
    alu_eq_next.mpr ⟨State.checkNat_eq_ok.mpr hr, hl, addrs, from_, hd, hs, rfl⟩, completed_wrote .., written_wrote ..,
    wrote_status ..⟩

end

/-! ### CMP (41_integer_arith_logic.md R193) -/

theorem exec_of_cmpForm {lock : Bool} {w : Nat} {dst : Place w} {src : Operand w} {i : Instr} (s : State)
    (h : AluForm cmpForms lock dst src i) : exec i s = cmp dst src s := by
  cases h <;> rfl

/-! ### DIV (41_integer_arith_logic.md R195) -/

section
variable {w : Nat} {regs : List Reg} {dividend : State → Nat} {put : BitVec w → BitVec w → State → State}
  {src : Place w} {s : State} {addrs : List Nat}

/-- DIV raises `#DE` for a divisor of 0 and for a quotient that does not fit. -/
theorem div_of_error (hr : Readable s (regs ++ src.regs)) (hs : s.openPlace src .read = .ok addrs)
    (h : (s.peek src addrs).toNat = 0 ∨ 2 ^ w ≤ dividend s / (s.peek src addrs).toNat) :
    div regs dividend put src s = .fault (.exception .de none s.pc none) := by
  have read : s.readOperand (.place src) = .ok (s.peek src addrs) := State.readOperand_eq_ok.mpr ⟨addrs, hs, rfl⟩
  simp only [div, checkNat_bind_of_readable hr, read, ok_bind]
  cases hz : s.peek src addrs == 0 with
  | true => rfl
  | false =>
    have nonzero : (s.peek src addrs).toNat ≠ 0 := fun h0 => (beq_eq_false_iff_ne.mp hz) (BitVec.eq_of_toNat_eq h0)
    rw [decide_eq_true (h.resolve_left nonzero)]
    rfl

end

section
variable (s : State)

theorem dividend16_eq : dividend16 s = (s.reg16 .edx).toNat * 2 ^ 16 + (s.reg16 .eax).toNat := by
  rw [dividend16, BitVec.toNat_append, ← Nat.shiftLeft_add_eq_or_of_lt (s.reg16 .eax).isLt, Nat.shiftLeft_eq]

theorem dividend32_eq : dividend32 s = (s.reg32 .edx).toNat * 2 ^ 32 + (s.reg32 .eax).toNat := by
  rw [dividend32, BitVec.toNat_append, ← Nat.shiftLeft_add_eq_or_of_lt (s.reg32 .eax).isLt, Nat.shiftLeft_eq]

/-- The state with the quotient and the remainder in place. -/
def State.divided {w : Nat} (put : BitVec w → BitVec w → State → State) (q r : BitVec w) : State :=
  (put q r ((s.setStatus (freeStatus s.fresh)).drew 1)).advance

end

/-- AL and AH written one after the other. -/
theorem withByte_low_high (old : DWord) (q r : Byte) :
    withByte (withByte old false q) true r = old.extractLsb' 16 16 ++ r ++ q := by
  have low : (withByte old false q).extractLsb' 0 8 = q := byteOf_withByte old false q
  have high : (withByte old false q).extractLsb' 16 16 = old.extractLsb' 16 16 := extractLsb'_withByte_high old false q
  calc withByte (withByte old false q) true r
      = (withByte old false q).extractLsb' 16 16 ++ r ++ (withByte old false q).extractLsb' 0 8 := rfl
    _ = old.extractLsb' 16 16 ++ r ++ q := by rw [high, low]

/-- A register that neither of two writes names. -/
theorem get_set_set_other {α : Type} (f : RegFile α) {r r' q : Reg} {v v' : α} (h : q ≠ r) (h' : q ≠ r') :
    ((f.set r v).set r' v').get q = f.get q := by
  rw [RegFile.get_set_other _ _ _ _ h', RegFile.get_set_other _ _ _ _ h]

/-- The dividend of each form of DIV, and what writing its quotient and its remainder leaves. -/
theorem exec_of_divForm {s : State} {regs : List Reg} {d w : Nat} {src : Place w}
    {result : BitVec w → BitVec w → State → Prop} {i : Instr} (h : DivForm s regs d src result i) :
    ∃ dividend put, exec i s = div regs dividend put src s ∧ dividend s = d ∧
      ∀ q r, Completed 1 s (s.divided put q r) ∧ MemoryKept s (s.divided put q r) ∧ result q r (s.divided put q r) := by
  cases h with
  | rm8 rm =>
    exact ⟨dividend8, putQuotient8, rfl, rfl, fun q r => ⟨⟨rfl, rfl, rfl⟩, ⟨rfl, rfl⟩,
      withByte_low_high (s.reg32 .eax) q r, fun x hx => get_set_set_other s.regs hx hx⟩⟩
  | rm16 rm =>
    exact ⟨dividend16, putQuotient16, rfl, dividend16_eq s, fun q r => ⟨⟨rfl, rfl, rfl⟩, ⟨rfl, rfl⟩, rfl, rfl,
      fun x ha hd => get_set_set_other s.regs ha hd⟩⟩
  | rm32 rm =>
    exact ⟨dividend32, putQuotient32, rfl, dividend32_eq s, fun q r => ⟨⟨rfl, rfl, rfl⟩, ⟨rfl, rfl⟩, rfl, rfl,
      fun x ha hd => get_set_set_other s.regs ha hd⟩⟩

end Sys2Proof.Machine

section

open Sys2Proof Sys2Proof.Machine Sys2Proof.Claims

/-- Settles O23: the sum, with no carry in. -/
theorem addStoresTheSum : Obligations.AddStoresTheSum := by
  intro lock w dst src i s addrs from_ form hr hl hd hs a b
  obtain ⟨t, run, completed, written, status⟩ := alu_completes (op := .add) hr hl hd hs
  refine ⟨t, (exec_of_addForm s form).trans run, completed, written, ?_⟩
  rw [status]
  exact sumFlags_addFlags (BitVec.add_zero _)

/-- Settles O24: the sum with CF. -/
theorem adcStoresTheSumWithCarry : Obligations.AdcStoresTheSumWithCarry := by
  intro lock w dst src i s addrs from_ form hr hl hd hs a b r
  have sum : a + b + BitVec.ofNat w s.status.cf.toNat = r := congrArg (a + b + ·) (ofNat_toNat_carry _)
  obtain ⟨t, run, completed, written, status⟩ := alu_completes (op := .adc) hr hl hd hs
  refine ⟨t, (exec_of_adcForm s form).trans run, completed, sum ▸ written, ?_⟩
  rw [status]
  exact sumFlags_addFlags sum

/-- Settles O25: CF and OF are cleared, and AF takes a free value. -/
theorem andStoresTheConjunction : Obligations.AndStoresTheConjunction := by
  intro lock w dst src i s addrs from_ form hr hl hd hs r
  obtain ⟨t, run, completed, written, status⟩ := alu_completes (op := .and) hr hl hd hs
  refine ⟨t, (exec_of_andForm s form).trans run, completed, written, ?_⟩
  rw [status]
  exact ⟨rfl, rfl, resultFlags_of rfl rfl rfl⟩

/-- Settles O26: both operands are opened for reading, and only the flags are written. -/
theorem cmpSetsFlagsOnly : Obligations.CmpSetsFlagsOnly := by
  intro lock w dst src i s addrs from_ form hr hd hs a b
  exact ⟨subFlags a b, (exec_of_cmpForm s form).trans
    (cmp_eq_next.mpr ⟨State.checkNat_eq_ok.mpr hr, addrs, from_, hd, hs, rfl⟩), differenceFlags_subFlags⟩

/-- Settles O27: DEC writes one less, and its flags take CF as it was. -/
theorem decSubtractsOneAndKeepsCarry : Obligations.DecSubtractsOneAndKeepsCarry := by
  intro lock w dst i s addrs form hr hl hd a
  refine ⟨s.wrote dst addrs (a - 1) (decFlags a s.status.cf) 0, (exec_of_decForm s form).trans
    (dec_eq_next.mpr ⟨State.checkNat_eq_ok.mpr hr, hl, addrs, hd, rfl⟩), completed_wrote .., written_wrote .., ?_⟩
  rw [wrote_status]
  exact ⟨rfl, decide_eq_true_iff, beq_iff_eq, resultFlags_of rfl rfl rfl⟩

/-- Settles O28: the two tests of the divisor and the quotient decide. -/
theorem divDividesOrRaisesDivideError : Obligations.DivDividesOrRaisesDivideError := by
  intro s regs d w src result i addrs form hr hs v
  obtain ⟨dividend, put, run, rfl, leaves⟩ := exec_of_divForm form
  rw [run]
  refine ⟨fun hv hq => ⟨_, ?_, leaves _ _⟩, div_of_error hr hs⟩
  have nonzero : s.peek src addrs ≠ 0 := fun h0 => hv (congrArg BitVec.toNat h0)
  exact div_eq_next.mpr ⟨State.checkNat_eq_ok.mpr hr, addrs, hs, nonzero, hq, rfl⟩

/-- Settles O29: each check is the first one of what is left of the instruction. -/
theorem readModifyWriteFaultOrder : Obligations.ReadModifyWriteFaultOrder := by
  intro f op lock w dst src i s hf form
  obtain ⟨o, rfl, run⟩ := exec_of_aluForm s hf form
  rw [run]
  exact ⟨fun he ⟨r, hmem, hn⟩ => checkNat_bind_of_nat he hmem hn _, fun hr => ⟨fun e => alu_of_lock_error hr,
    fun hl => ⟨fun e => alu_of_destination_error hr hl, fun addrs e => alu_of_source_error hr hl⟩⟩⟩

end

/-! ## Settling the statements about protection and bounds (42_protection_bounds.md)

ARPL passes its checks and then goes on to `State.wrote` with the raised selector, or to a new ZF alone. BOUND goes on
to the next instruction, or ends in `#BR` by one test of unbounded integers. -/

namespace Sys2Proof.Machine

open Sys2Proof.Claims

/-! ### ARPL (42_protection_bounds.md R220, R221) -/

theorem toNat_rpl (sel : Word) : (rpl sel).toNat = sel.toNat % 4 := by
  simp [rpl]

section
variable (dst : Place 16) (addrs : List Nat) {d v : Word} (s : State)

theorem arplResult_of_lt (h : d.toNat % 4 < v.toNat % 4) : (arplResult dst addrs d v s).advance =
    s.wrote dst addrs (withRpl d (rpl v)) { s.status with zf := true } 0 := by
  rw [arplResult, toNat_rpl, toNat_rpl, decide_eq_true h]
  rfl

theorem arplResult_of_not_lt (h : ¬d.toNat % 4 < v.toNat % 4) : (arplResult dst addrs d v s).advance =
    (s.setStatus { s.status with zf := false }).advance := by
  rw [arplResult, toNat_rpl, toNat_rpl, decide_eq_false h]
  rfl

end

theorem exec_arpl (rm : RM) (r : Reg) (s : State) : exec (.arpl rm r) s = execArpl rm r s :=
  rfl

section
variable {rm : RM} {r : Reg} {s : State}

theorem exec_arpl_of_unprotected (h : s.protectedMode = false) :
    exec (.arpl rm r) s = .fault (.exception .ud none s.pc none) := by
  rw [exec_arpl, execArpl, h]
  rfl

theorem exec_arpl_of_protected {addrs : List Nat} (hp : s.protectedMode = true)
    (hr : Readable s (rm.place16.regs ++ [r])) (hd : s.openPlace rm.place16 .write = .ok addrs) :
    exec (.arpl rm r) s =
      .next (arplResult rm.place16 addrs (s.peek rm.place16 addrs) (s.reg16 r) s).advance := by
  simp only [exec_arpl, execArpl, hp, Bool.not_true, stopIf_false, ok_bind, checkNat_bind_of_readable hr, hd, pure_eq,
    toOutcome_ok]

end

/-! ### BOUND (42_protection_bounds.md R223) -/

theorem exec_of_boundForm {w : Nat} {index : Place w} {m : MemOp} {i : Instr} (s : State)
    (h : BoundForm index m i) : exec i s = bound index m s := by
  cases h <;> rfl

theorem boundSlack_eq (v : BoundSlack) (n : Nat) : boundSlack v n = if v = .operandBytes then (n : Int) else 0 := by
  cases v <;> rfl

theorem outOfBounds_eq_false {index lower upper slack : Int} :
    outOfBounds index lower upper slack = false ↔ lower ≤ index ∧ index ≤ upper + slack := by
  simp [outOfBounds]

/-- BOUND raises `#BR` for an index that its test refuses. -/
theorem bound_of_outOfBounds {w : Nat} {index : Place w} {m : MemOp} {s : State} {addrs : List Nat}
    (hr : Readable s (index.regs ++ m.ea.regs)) (hm : s.memAccess m [w / 8, w / 8] .read = .ok addrs)
    (h : outOfBounds (s.peek index []).toInt (s.load w (addrs.take (w / 8))).toInt
      (s.load w (addrs.drop (w / 8))).toInt (boundSlack s.cfg.boundSlack (w / 8)) = true) :
    bound index m s = .fault (.exception .br none s.pc none) := by
  simp only [bound, checkNat_bind_of_readable hr, hm, ok_bind, h, stopIf_true, error_bind]
  rfl

end Sys2Proof.Machine

section

open Sys2Proof Sys2Proof.Machine Sys2Proof.Claims

/-- Settles O34: the comparison of the RPLs decides between a store of the raised selector and a new ZF alone. -/
theorem arplRaisesTheRequestedLevel : Obligations.ArplRaisesTheRequestedLevel := by
  intro rm r s
  refine ⟨exec_arpl_of_unprotected, fun addrs hp hr hd => ?_⟩
  intro d v
  have run : exec (.arpl rm r) s = .next (arplResult rm.place16 addrs d v s).advance := exec_arpl_of_protected hp hr hd
  by_cases raised : d.toNat % 4 < v.toNat % 4
  · rw [arplResult_of_lt _ _ _ raised] at run
    refine ⟨_, run, completed_wrote .., ?_, ?_, fun _ => written_wrote .., fun h => absurd raised h⟩
    all_goals rw [wrote_status]
    exact iff_of_true rfl raised
  · rw [arplResult_of_not_lt _ _ _ raised] at run
    exact ⟨_, run, ⟨by simp, rfl, rfl⟩, rfl, iff_of_false nofun raised, fun h => absurd h raised,
      fun _ => ⟨rfl, rfl, rfl⟩⟩

/-- Settles O35: the model's test of unbounded integers is the statement's. -/
theorem boundChecksTheIndex : Obligations.BoundChecksTheIndex := by
  intro w index m i s addrs form hr hm lower upper slack within
  have test : outOfBounds (s.peek index []).toInt lower.toInt upper.toInt (boundSlack s.cfg.boundSlack (w / 8)) =
      false ↔ within := by
    rw [boundSlack_eq]
    exact outOfBounds_eq_false
  rw [exec_of_boundForm s form]
  constructor
  · intro inside
    exact bound_eq_next.mpr ⟨State.checkNat_eq_ok.mpr hr, addrs, hm, test.mpr inside, rfl⟩
  · intro outside
    exact bound_of_outOfBounds hr hm (eq_true_of_ne_false fun h => outside (test.mp h))

end

/-! ## Settling the statements about bit scans and bit tests (43_bit_scan_test.md)

BSF and BSR go on to `State.wrote` with the index that a search of the bit numbers finds. A bit test opens its bytes,
none for a register, and then BT goes on to new flags alone, the others to `State.wrote` with one bit replaced. -/

namespace Sys2Proof.Machine

open Sys2Proof.Claims

/-! ### Destinations that are registers -/

section
variable {s t : State} {w : Nat} {p : Place w} {addrs : List Nat}

theorem memoryKept_of_written {v : BitVec w} (hp : ∀ m, p ≠ .mem m) (h : Written p addrs v s t) : MemoryKept s t := by
  obtain ⟨-, memory⟩ := h
  cases p with
  | r8 | r16 | r32 => exact memory
  | mem m => exact absurd rfl (hp m)

/-- Registers that are as before are as if an operand's own value had been written to it. -/
theorem registersWritten_peek (h : t.regs = s.regs) : RegistersWritten p (s.peek p addrs) s t := by
  have kept (r : Reg) : t.reg32 r = s.reg32 r := by rw [State.reg32, State.reg32, h]
  cases p with
  | r8 r => exact ⟨by rw [kept, ← byteOf_eq]; rfl, by rw [kept], by rw [kept], fun q _ => kept q⟩
  | r16 r => exact ⟨by rw [kept]; rfl, by rw [kept], fun q _ => kept q⟩
  | r32 r => exact ⟨kept r, fun q _ => kept q⟩
  | mem m => exact h

end

/-! ### BSF and BSR (43_bit_scan_test.md R230, R231) -/

/-- The search of BSF, or of BSR. -/
def scan (fwd : Bool) {w : Nat} (v : BitVec w) : Option Nat :=
  if fwd then lowestBit v else highestBit v

/-- The order of a search: BSF meets lower bit numbers first, BSR higher ones. -/
def NotAfter (fwd : Bool) (j k : Nat) : Prop := if fwd = true then j ≤ k else k ≤ j

theorem NotAfter.refl (fwd : Bool) (k : Nat) : NotAfter fwd k k := by
  cases fwd <;> exact Nat.le_refl k

theorem exec_of_scanForm {fwd : Bool} {w : Nat} {dst src : Place w} {i : Instr} (s : State)
    (h : ScanForm fwd dst src i) : exec i s = bitScan (scan fwd) dst src s := by
  cases h <;> rfl

theorem register_of_scanForm {fwd : Bool} {w : Nat} {dst src : Place w} {i : Instr} (h : ScanForm fwd dst src i) :
    ∀ m, dst ≠ .mem m := by
  cases h <;> exact nofun

/-- What a search of a sorted list finds comes before everything else that it could have found. -/
theorem first_of_find? {α : Type} {R : α → α → Prop} {p : α → Bool} {l : List α} {a b : α} (refl : ∀ x, R x x)
    (sorted : l.Pairwise R) (found : l.find? p = some a) (hb : b ∈ l) (hp : p b = true) : R a b := by
  obtain ⟨-, before, after, rfl, rejected⟩ := List.find?_eq_some_iff_append.mp found
  obtain ⟨-, tail, -⟩ := List.pairwise_append.mp sorted
  rcases List.mem_append.mp hb with hb | hb
  · exact absurd hp (by simpa using rejected b hb)
  · rcases List.mem_cons.mp hb with rfl | hb
    · exact refl b
    · exact List.rel_of_pairwise_cons tail hb

section
variable {fwd : Bool} {w : Nat} {v : BitVec w}

/-- BSF searches the bit numbers upwards, BSR downwards. -/
theorem scan_eq_find? : ∃ l : List Nat, scan fwd v = l.find? (fun k => v.getLsbD k) ∧ (∀ k, k ∈ l ↔ k < w) ∧
    l.Pairwise (NotAfter fwd) := by
  cases fwd with
  | true => exact ⟨List.range w, rfl, fun k => List.mem_range, List.pairwise_le_range⟩
  | false =>
    refine ⟨(List.range w).reverse, rfl, fun k => ?_, List.pairwise_reverse.mpr List.pairwise_le_range⟩
    rw [List.mem_reverse, List.mem_range]

theorem scan_eq_some {k : Nat} (h : scan fwd v = some k) : k < w ∧ v.getLsbD k = true ∧
    ∀ j < w, v.getLsbD j = true → NotAfter fwd k j := by
  obtain ⟨l, search, mem, sorted⟩ := scan_eq_find? (fwd := fwd) (v := v)
  rw [search] at h
  exact ⟨(mem k).mp (List.mem_of_find?_eq_some h), List.find?_some h,
    fun j hj isSet => first_of_find? (NotAfter.refl fwd) sorted h ((mem j).mpr hj) isSet⟩

theorem scan_of_ne_zero (h : v ≠ 0) : ∃ k, scan fwd v = some k := by
  obtain ⟨l, search, mem, -⟩ := scan_eq_find? (fwd := fwd) (v := v)
  rw [search, ← Option.isSome_iff_exists, List.find?_isSome]
  by_contra allClear
  refine h (BitVec.eq_of_getLsbD_eq fun k hk => ?_)
  rw [BitVec.ofNat_eq_ofNat, BitVec.getLsbD_zero]
  exact eq_false_of_ne_true fun isSet => allClear ⟨k, (mem k).mpr hk, isSet⟩

end

/-- What a bit scan leaves once every check has passed. -/
theorem bitScan_completes {w : Nat} {search : BitVec w → Option Nat} {dst src : Place w} {s : State} {addrs : List Nat}
    (hr : Readable s src.regs) (ho : s.openPlace src .read = .ok addrs) :
    let v := s.peek src addrs
    ∃ t x, bitScan search dst src s = .next t ∧ Completed 2 s t ∧ (t.status.zf = true ↔ v = 0) ∧
      Written dst [] x s t ∧ ∀ k, search v = some k → x = BitVec.ofNat w k := by
  intro v
  refine ⟨s.wrote dst [] _ { freeStatus s.fresh with zf := v == 0 } 2, _,
    bitScan_eq_next.mpr ⟨State.checkNat_eq_ok.mpr hr, addrs, ho, rfl⟩, completed_wrote .., ?_, written_wrote ..,
    fun k found => ?_⟩
  · rw [wrote_status, beq_iff_eq]
  · rw [found]

/-! ### BSWAP (43_bit_scan_test.md R233) -/

theorem encode_bswap (z : OpSize) (r : Reg) : encode z (.bswap z r) = [0x0F, 0xC8 + r.code.setWidth 8] := by
  cases z <;> rfl

theorem decode_bswap (z : OpSize) (r : Reg) (rest : List Byte) :
    decode z (0x0F :: (0xC8 + r.code.setWidth 8) :: rest) = .done (.bswap z r) rest := by
  have inverse : decode z (encode z (.bswap z r) ++ rest) = .done (.bswap z r) rest := decode_encode rfl z rest
  rw [encode_bswap] at inverse
  exact inverse

section
variable {n : Nat} (x : BitVec n) (b : Byte)

theorem extractLsb'_append_byte_zero : (x ++ b).extractLsb' 0 8 = b := by
  rw [BitVec.extractLsb'_append_eq_of_add_le (by decide), BitVec.extractLsb'_eq_self]

theorem extractLsb'_append_byte_add (m : Nat) : (x ++ b).extractLsb' (8 + m) 8 = x.extractLsb' m 8 := by
  rw [BitVec.extractLsb'_append_eq_of_le (by omega), Nat.add_sub_cancel_left]

end

theorem extractLsb'_swapBytes (v : DWord) {k : Nat} (hk : k < 4) :
    (swapBytes v).extractLsb' (8 * k) 8 = v.extractLsb' (24 - 8 * k) 8 := by
  have below {n : Nat} (x : BitVec n) (b c : Byte) : (x ++ b ++ c).extractLsb' 8 8 = b :=
    (extractLsb'_append_byte_add _ c 0).trans (extractLsb'_append_byte_zero x b)
  match k with
  | 0 => exact extractLsb'_append_byte_zero _ _
  | 1 => exact below _ _ _
  | 2 => exact (extractLsb'_append_byte_add _ _ 8).trans (below _ _ _)
  | 3 =>
    exact ((extractLsb'_append_byte_add _ _ 16).trans (extractLsb'_append_byte_add _ _ 8)).trans
      ((extractLsb'_append_byte_add _ _ 0).trans BitVec.extractLsb'_eq_self)

section
variable {r : Reg} {s : State} (h : Readable s [r])
include h

theorem exec_bswap_s32 : exec (.bswap .s32 r) s = .next (s.set32 r (swapBytes (s.reg32 r))).advance :=
  congrArg toOutcome (checkNat_bind_of_readable h _)

theorem exec_bswap_s16 : exec (.bswap .s16 r) s = .next ((s.set32 r s.fresh).drew 1).advance :=
  congrArg toOutcome (checkNat_bind_of_readable h _)

end

/-! ### BT, BTC, BTR and BTS (43_bit_scan_test.md R236 to R242) -/

theorem bitReplaced_setBit {w : Nat} (v : BitVec w) (k : Nat) (b : Bool) : BitReplaced k b v (setBit v k b) := by
  intro j hj
  cases b with
  | true => simp [setBit, hj, Bool.or_comm]
  | false => simp [setBit, hj, Bool.and_comm]

theorem bitReplaced_self {w : Nat} (v : BitVec w) (k : Nat) : BitReplaced k (v.getLsbD k) v v := by
  intro j _
  split
  case isTrue h => rw [h]
  case isFalse => rfl

theorem newBit_eq (op : BitOp) (b : Bool) : op.newBit b = bitAfter op b := by
  cases op <;> rfl

theorem pokeBit_eq_poke {op : BitOp} (h : op ≠ .bt) (s : State) {w : Nat} (p : Place w) (addrs : List Nat)
    (v : BitVec w) : s.pokeBit op p addrs v = s.poke p addrs v := by
  cases op with
  | bt => exact absurd rfl h
  | btc | btr | bts => rfl

section
variable {op : BitOp} {lock : Bool} {w k : Nat} {base : Place w} {off : Operand w} {s : State} {addrs : List Nat}

/-- What a bit test leaves once every check has passed. -/
theorem bitTest_completes (hr : Readable s (base.regs ++ off.regs))
    (ho : s.openBit op lock base (s.operand off []) = .ok (addrs, k)) :
    let v := s.peek base addrs
    ∃ t, bitTest op lock base off s = .next t ∧ Completed 1 s t ∧ t.status.cf = v.getLsbD k ∧
      (op = .bt → t.regs = s.regs ∧ MemoryKept s t) ∧
      (op ≠ .bt → ∃ v', BitReplaced k (bitAfter op (v.getLsbD k)) v v' ∧ Written base addrs v' s t) := by
  intro v
  have run := bitTest_eq_next.mpr ⟨State.checkNat_eq_ok.mpr hr, (addrs, k), ho, rfl⟩
  by_cases reads : op = .bt
  · subst reads
    exact ⟨_, run, ⟨by simp [State.pokeBit], rfl, rfl⟩, rfl, fun _ => ⟨rfl, rfl, rfl⟩, fun h => absurd rfl h⟩
  · rw [pokeBit_eq_poke reads] at run
    refine ⟨s.wrote base addrs _ _ 1, run, completed_wrote .., ?_, fun h => absurd h reads,
      fun _ => ⟨_, ?_, written_wrote ..⟩⟩
    · rw [wrote_status]
    · exact newBit_eq op _ ▸ bitReplaced_setBit v k _

theorem openBit_register (hb : ∀ m, base ≠ .mem m) (o : BitVec w) :
    s.openBit op lock base o = .ok ([], o.toNat % w) := by
  cases base with
  | r8 | r16 | r32 => rfl
  | mem m => exact absurd rfl (hb m)

/-- A bit test of memory opens the bytes of `bitSite`. -/
theorem openBit_mem {m : MemOp} {o : BitVec w} {site : BitSite}
    (hsite : bitSite w s.bitWide m.ea.addrSize (s.offset m.ea) o.toInt = site)
    (hl : s.checkBitLock op lock m site.off site.bytes = .ok ())
    (ha : s.segAccess m.seg m.ea.addrSize site.off [site.bytes] op.kind = .ok addrs) :
    s.openBit op lock (.mem m : Place w) o = .ok (addrs, site.bit) := by
  simp only [State.openBit, hsite, hl, ha, ok_bind, pure_eq]

end

/-- `bitSite` for either width of the access at once: items of `unit` bits, counted from the effective address. -/
theorem bitSite_of_unit (w : Nat) (wide : Bool) (a : OpSize) (ea : DWord) (o : Int) :
    let unit : Nat := if wide then w else 8
    bitSite w wide a ea o =
      { off := a.wrap (ea + BitVec.ofInt 32 ((unit / 8 : Nat) * (o / (unit : Int)))), bytes := unit / 8,
        bit := (o % (unit : Int)).toNat } := by
  cases wide with
  | true => rfl
  | false => simp [bitSite]

/-! ### The two accesses to a bit of memory (43_bit_scan_test.md R238) -/

theorem wrap_wrap_add (a : OpSize) (x y : DWord) : a.wrap (a.wrap x + y) = a.wrap (x + y) := by
  cases a with
  | s16 =>
    apply BitVec.eq_of_toNat_eq
    simp only [wrap_s16_toNat, BitVec.toNat_add]
    omega
  | s32 => rfl

/-- The bytes in front of a bit: those of the items in front of its item, and those in front of it in the item. -/
theorem bytes_before_bit (bytes o : Int) : bytes * (o / (8 * bytes)) + o % (8 * bytes) / 8 = o / 8 := by
  have parts : 8 * (bytes * (o / (8 * bytes))) + o % (8 * bytes) = o := by
    rw [← mul_assoc]
    exact Int.mul_ediv_add_emod o (8 * bytes)
  omega

end Sys2Proof.Machine

section

open Sys2Proof Sys2Proof.Machine Sys2Proof.Claims

/-- Settles O36: the bit number that the search finds is the first of those set, in the direction of the search. -/
theorem bitScanFindsTheBit : Obligations.BitScanFindsTheBit := by
  intro fwd w dst src i s addrs form hr ho v
  obtain ⟨t, x, run, completed, zero, written, index⟩ := bitScan_completes (search := scan fwd) (dst := dst) hr ho
  have memory : MemoryKept s t := memoryKept_of_written (register_of_scanForm form) written
  obtain ⟨registers, -⟩ := written
  refine ⟨t, (exec_of_scanForm s form).trans run, completed, memory, zero, fun hv => ?_, fun _ => ⟨x, registers⟩⟩
  obtain ⟨k, found⟩ := scan_of_ne_zero (fwd := fwd) hv
  obtain ⟨inside, isSet, first⟩ := scan_eq_some found
  exact ⟨k, inside, isSet, index k found ▸ registers, first⟩

/-- Settles O37: the encodings are those of the encoder, and each operand size has its one new value. -/
theorem bswapReversesTheBytes : Obligations.BswapReversesTheBytes := by
  refine ⟨fun z rest => ?_, fun z r s he hn => checkNat_bind_of_nat he (.head _) hn _, fun r s hr => ⟨?_, ?_⟩⟩
  · have decodes (r : Reg) := decode_bswap z r rest
    exact ⟨decodes .eax, decodes .ecx, decodes .edx, decodes .ebx, decodes .esp, decodes .ebp, decodes .esi,
      decodes .edi⟩
  · refine ⟨_, exec_bswap_s32 hr, ⟨by simp, rfl, rfl⟩, ⟨rfl, rfl⟩, othersKept_set rfl rfl, rfl, fun k hk => ?_⟩
    have swapped : (s.set32 r (swapBytes (s.reg32 r))).advance.reg32 r = swapBytes (s.reg32 r) :=
      RegFile.get_set_same ..
    rw [swapped, extractLsb'_swapBytes _ hk]
  · exact ⟨_, exec_bswap_s16 hr, ⟨by simp, rfl, rfl⟩, ⟨rfl, rfl⟩, othersKept_set rfl rfl, rfl⟩

/-- Settles O38: BT leaves the register as it is, the others write it with the bit replaced. -/
theorem bitTestOfARegister : Obligations.BitTestOfARegister := by
  intro op lock w base off i s form register hr v k
  obtain ⟨t, run, completed, carry, reads, writes⟩ :=
    bitTest_completes hr (openBit_register (op := op) (lock := lock) register _)
  rw [← exec_of_bitForm s form] at run
  by_cases hop : op = .bt
  · obtain ⟨registers, memory⟩ := reads hop
    subst hop
    exact ⟨t, run, completed, memory, carry, v, bitReplaced_self v k, registersWritten_peek registers⟩
  · obtain ⟨v', replaced, written⟩ := writes hop
    have memory : MemoryKept s t := memoryKept_of_written register written
    obtain ⟨registers, -⟩ := written
    exact ⟨t, run, completed, memory, carry, v', replaced, registers⟩

/-- Settles O39: the model's `bitSite` is the statement's access, for either width. -/
theorem bitTestOfMemory : Obligations.BitTestOfMemory := by
  intro op lock w m off i s addrs form hr o unit site hl ha v k
  have opened := openBit_mem (bitSite_of_unit w s.bitWide m.ea.addrSize (s.offset m.ea) o) hl ha
  obtain ⟨t, run, completed, carry, reads, writes⟩ := bitTest_completes (base := .mem m) hr opened
  rw [← exec_of_bitForm s form] at run
  by_cases hop : op = .bt
  · obtain ⟨registers, memory⟩ := reads hop
    exact ⟨t, run, completed, registers, carry, fun _ => memory, fun h => absurd hop h⟩
  · obtain ⟨v', replaced, registers, memory⟩ := writes hop
    exact ⟨t, run, completed, registers, carry, fun h => absurd h hop, fun _ => ⟨v', replaced, memory⟩⟩

/-- Settles O40: dividing the bit offset by the item's bits and then by 8 is dividing it by 8. -/
theorem bothBitAccessesNameOneBit : Obligations.BothBitAccessesNameOneBit := by
  intro w a ea o hw wide narrow
  have whole : w = 8 * (w / 8) := by rcases hw with rfl | rfl <;> rfl
  have wide_bit : (wide.bit : Int) = o % w := Int.toNat_of_nonneg (Int.emod_nonneg o (by omega))
  have narrow_bit : (narrow.bit : Int) = o % 8 := Int.toNat_of_nonneg (by omega)
  have inside : o % w < w := Int.emod_lt_of_pos o (by omega)
  have same : o % w % 8 = o % 8 := Int.emod_emod_of_dvd o ⟨(w / 8 : Nat), by omega⟩
  have before : ((w / 8 : Nat) * (o / w) + (wide.bit / 8 : Nat) : Int) = o / 8 := by
    have bytes := bytes_before_bit (w / 8 : Nat) o
    rw [show (8 * (w / 8 : Nat) : Int) = w by omega, ← wide_bit] at bytes
    exact bytes
  refine ⟨rfl, rfl, by omega, by omega, by omega, ?_⟩
  calc narrow.off
      = a.wrap (ea + BitVec.ofInt 32 ((w / 8 : Nat) * (o / w) + (wide.bit / 8 : Nat))) := by rw [before]; rfl
    _ = a.wrap (ea + BitVec.ofInt 32 ((w / 8 : Nat) * (o / w)) + BitVec.ofNat 32 (wide.bit / 8)) := by
      rw [BitVec.ofInt_add, BitVec.ofInt_natCast, BitVec.add_assoc]
    _ = a.wrap (wide.off + BitVec.ofNat 32 (wide.bit / 8)) := (wrap_wrap_add a _ _).symm

end

/-! ## Settling the statements about CALL (44_call.md)

Every form of CALL reads its operands and then makes the checks of `nearCall` or `farCall`. The far forms that stay at
one privilege level share one tail, `farPush`: the room for two pushes, the limit of the target, the pushes. A call
through a gate reaches `gateTarget`, and to more privilege the stack of the TSS. What each of them does is said once,
by the check that decides. -/

namespace Sys2Proof.Machine

open Sys2Proof.Claims

/-! ### The stack (20_memory.md R96, R97) -/

theorem OpSize.bytes_pos (n : OpSize) : 0 < n.bytes := by
  cases n <;> decide

theorem wrap_s16_eq_and (x : DWord) : OpSize.s16.wrap x = x &&& 0xFFFF := by
  apply BitVec.eq_of_toNat_eq
  rw [wrap_s16_toNat, BitVec.toNat_and]
  exact (Nat.and_two_pow_sub_one_eq_mod x.toNat 16).symm

section
variable (s : State)

theorem stackTop_eq_sp : stackTop s = s.sp := by
  unfold stackTop State.sp
  cases s.stackSize with
  | s16 => exact (wrap_s16_eq_and _).symm
  | s32 => rfl

theorem below_eq_wrap (n : Nat) (sp : DWord) : below s n sp = s.stackSize.wrap (sp - BitVec.ofNat 32 n) := by
  unfold below
  cases s.stackSize with
  | s16 => exact (wrap_s16_eq_and _).symm
  | s32 => rfl

/-- The offset of one push. -/
theorem slots_one (n : OpSize) : s.slots n 1 = [below s n.bytes (stackTop s)] := by
  rw [below_eq_wrap, stackTop_eq_sp]
  rfl

/-- The offsets of two pushes. -/
theorem slots_two (n : OpSize) :
    s.slots n 2 = [below s n.bytes (stackTop s), below s n.bytes (below s n.bytes (stackTop s))] := by
  rw [below_eq_wrap, below_eq_wrap, stackTop_eq_sp]
  rfl

end

theorem hasRoom_iff {g : Segment} {n : Nat} (h : 0 < n) (slots : List DWord) :
    g.hasRoom n slots = true ↔ ∀ x ∈ slots, Within g x n := by
  simp only [Segment.hasRoom, List.all_eq_true, inLimit_iff_within h]

section
variable {s : State} {n : OpSize}

theorem hasRoom_one_iff :
    s.segs.ss.hasRoom n.bytes (s.slots n 1) = true ↔ Within s.segs.ss (below s n.bytes (stackTop s)) n.bytes := by
  simp [slots_one, hasRoom_iff (OpSize.bytes_pos n)]

theorem hasRoom_two_iff : s.segs.ss.hasRoom n.bytes (s.slots n 2) = true ↔ FarWithin n s := by
  simp [slots_two, hasRoom_iff (OpSize.bytes_pos n), FarWithin]

/-- An access to SS that is permitted is within its limit. -/
theorem within_of_segAccess {a : OpSize} {off : DWord} {kind : AccessKind} {p : List Nat}
    (h : s.segAccess .ss a off [n.bytes] kind = .ok p) : Within s.segs.ss off n.bytes := by
  obtain ⟨-, limit, -⟩ := State.segAccess_eq_ok.mp h
  rw [List.sum_singleton] at limit
  exact (inLimit_iff_within (OpSize.bytes_pos n)).mp limit

theorem segAccess_ss_beyond {a : OpSize} {off : DWord} {kind : AccessKind} (h : ¬Within s.segs.ss off n.bytes) :
    s.segAccess .ss a off [n.bytes] kind = .error s.ss0 :=
  segAccess_beyond_limit (r := .ss) (fun _ hr => absurd hr (by decide)) (by simpa using OpSize.bytes_pos n)
    (by rwa [List.sum_singleton])

theorem farWithin_of_farRoom {cs ip : List Nat} (h : FarRoom n cs ip s) : FarWithin n s :=
  ⟨within_of_segAccess h.1, within_of_segAccess h.2⟩

theorem openSlots_one {p : Result (List Nat)}
    (h : s.segAccess .ss s.stackSize (below s n.bytes (stackTop s)) [n.bytes] .write = p) :
    s.openSlots n.bytes (s.slots n 1) = p >>= fun l => .ok [l] := by
  rw [slots_one, State.openSlots, h]
  rfl

theorem openSlots_of_farRoom {cs ip : List Nat} (h : FarRoom n cs ip s) :
    s.openSlots n.bytes (s.slots n 2) = .ok [cs, ip] := by
  obtain ⟨first, second⟩ := h
  rw [slots_two, State.openSlots, State.openSlots, first, second]
  rfl

theorem openSlots_of_farPushFaults {f : Fault} (h : FarPushFaults n f s) :
    s.openSlots n.bytes (s.slots n 2) = .error (.fault f) := by
  rw [slots_two, State.openSlots]
  simp only [FarPushFaults] at h
  rcases h with first | ⟨⟨cs, first⟩, second⟩
  · rw [first]
    rfl
  · rw [first, State.openSlots, second]
    rfl

end

/-! ### What pushes leave (44_call.md R251, R256, R259) -/

section
variable {s t : State} {slots : List DWord} {addrs : List (List Nat)} {vals : List DWord}

theorem stackMoved_of_pushed (h : t.regs = (s.pushed slots addrs vals).regs) :
    StackMoved (slots.getLastD s.sp) s t := by
  rw [State.pushed_regs] at h
  refine ⟨?_, othersKept_set rfl h⟩
  unfold State.reg32
  rw [h]
  cases s.stackSize <;> exact RegFile.get_set_same ..

theorem pushed_mem : (s.pushed slots addrs vals).mem = (s.storeSlots addrs vals).mem := by
  rw [State.pushed_eq]

theorem pushed_stored : (s.pushed slots addrs vals).stored = (s.storeSlots addrs vals).stored := by
  rw [State.pushed_eq]

end

/-- The low two bytes of a pushed selector are the selector's. -/
theorem paddedSelector_byte (sel : Word) (free : DWord) {k : Nat} (hk : k < 2) :
    (paddedSelector sel free).extractLsb' (8 * k) 8 = sel.extractLsb' (8 * k) 8 :=
  BitVec.extractLsb'_append_eq_of_add_le (by omega)

section
variable {n : OpSize} {s t : State}

/-- The one push of a near call. -/
theorem nearPush_leaves {addrs : List Nat}
    (hregs : t.regs = (s.pushed (s.slots n 1) [addrs] [s.nextPc]).regs)
    (hmem : t.mem = (s.store addrs s.nextPc).mem) (hstored : t.stored = (s.store addrs s.nextPc).stored) :
    StackMoved (below s n.bytes (stackTop s)) s t ∧ StoredAt addrs s.nextPc s t := by
  have moved := stackMoved_of_pushed hregs
  rw [slots_one] at moved
  have stored := store_storedAt s addrs s.nextPc
  unfold StoredAt Holds MemorySameOutside at stored
  rw [← hmem, ← hstored] at stored
  exact ⟨moved, stored⟩

/-- The two pushes of a far call. -/
theorem farPushes_leave {cs ip : List Nat}
    (hregs : t.regs = (s.pushed (s.slots n 2) [cs, ip] s.farReturn).regs)
    (hmem : t.mem = (s.storeSlots [cs, ip] s.farReturn).mem)
    (hstored : t.stored = (s.storeSlots [cs, ip] s.farReturn).stored) : FarReturnPushed n cs ip s t := by
  have moved := stackMoved_of_pushed hregs
  rw [slots_two] at moved
  refine ⟨moved, fun a ha => ?_, fun a => ?_, fun k a hk hlater => ?_, fun distinct k a hk _ => ?_⟩
  · rw [hmem]
    exact State.storeSlots_read_other s _ _ a (by simpa using ha)
  · rw [hstored]
    simpa using State.storeSlots_stored s [cs, ip] s.farReturn rfl a
  · rw [hmem]
    exact store_holds _ ip s.nextPc k a hk hlater
  · obtain ⟨csDistinct, -, apart⟩ := List.nodup_append.mp distinct
    rw [List.getElem?_take] at hk
    split at hk
    case isFalse => cases hk
    case isTrue low =>
      have inside : a ∈ cs := List.mem_of_getElem? hk
      have taken : a ∈ cs.take (k + 1) :=
        List.mem_of_getElem? (i := k) (by rwa [List.getElem?_take_of_lt (Nat.lt_succ_self k)])
      have later : a ∉ cs.drop (k + 1) := fun h => List.disjoint_take_drop csDistinct (Nat.le_refl _) taken h
      calc Memory.read t.mem a
          = Memory.read (s.store cs (paddedSelector s.segs.cs.selector s.fresh)).mem a := by
            rw [hmem]
            exact State.store_read_other _ _ _ _ fun h => apart a inside a h rfl
        _ = (paddedSelector s.segs.cs.selector s.fresh).extractLsb' (8 * k) 8 := store_holds s cs _ k a hk later
        _ = s.segs.cs.selector.extractLsb' (8 * k) 8 := paddedSelector_byte _ _ low

end

/-! ### How a call ends (44_call.md R268) -/

section
variable {s t : State} (hcfg : t.cfg = s.cfg) (hpsr : t.psr = s.psr)
include hcfg hpsr

theorem finishCall_of_noBranchTrap (h : NoBranchTrap s) : toOutcome (finishCall t) = .next t := by
  have quiet : (t.itaniumSE && t.psr.tb) = false := by
    rw [State.itaniumSE, hcfg, hpsr, Bool.and_eq_false_imp]
    exact h
  rw [finishCall, quiet]
  rfl

theorem finishCall_of_branchTrap (he : s.itaniumSE = true) (htb : s.psr.tb = true) :
    toOutcome (finishCall t) = .fault (.debugTrap t) := by
  have traps : (t.itaniumSE && t.psr.tb) = true := by
    rw [State.itaniumSE, hcfg, hpsr, Bool.and_eq_true]
    exact ⟨he, htb⟩
  rw [finishCall, traps]
  rfl

end

/-! ### Near calls (44_call.md R251, R252) -/

section
variable {s : State} {n : OpSize} {target : DWord}

theorem nearCall_beyond (h : s.segs.cs.limit.toNat < target.toNat) : nearCall n target s = .error s.gp0 := by
  rw [nearCall, decide_eq_true h]
  rfl

variable (h : target.toNat ≤ s.segs.cs.limit.toNat)
include h

theorem nearCall_of_noRoom (hroom : ¬Within s.segs.ss (below s n.bytes (stackTop s)) n.bytes) :
    nearCall n target s = .error s.ss0 := by
  have full : s.segs.ss.hasRoom n.bytes (s.slots n 1) = false := by
    rwa [← Bool.not_eq_true, hasRoom_one_iff]
  rw [nearCall, decide_eq_false (Nat.not_lt.mpr h), full]
  rfl

/-- A near call whose target and room pass is decided by the access of its push. -/
theorem nearCall_of_room (hroom : Within s.segs.ss (below s n.bytes (stackTop s)) n.bytes) :
    nearCall n target s = (do
      let addrs ← s.segAccess .ss s.stackSize (below s n.bytes (stackTop s)) [n.bytes] .write
      finishCall ((s.pushed (s.slots n 1) [addrs] [s.nextPc]).setPc target)) := by
  have room : s.segs.ss.hasRoom n.bytes (s.slots n 1) = true := hasRoom_one_iff.mpr hroom
  rw [nearCall, decide_eq_false (Nat.not_lt.mpr h), room, openSlots_one rfl]
  simp only [Bool.not_true, stopIf_false, ok_bind, bind_assoc]

/-- The fault of the push is that of the call. -/
theorem nearCall_of_fault {f : Fault}
    (hf : s.segAccess .ss s.stackSize (below s n.bytes (stackTop s)) [n.bytes] .write = .error (.fault f)) :
    nearCall n target s = .error (.fault f) := by
  by_cases hroom : Within s.segs.ss (below s n.bytes (stackTop s)) n.bytes
  · rw [nearCall_of_room h hroom, hf]
    rfl
  · have same : Stop.fault f = s.ss0 := Except.error.inj (hf.symm.trans (segAccess_ss_beyond hroom))
    rw [same, nearCall_of_noRoom h hroom]

/-- What a near call leaves once every check has passed, whether or not the trap ends it. -/
theorem nearCall_completes {addrs : List Nat}
    (hp : s.segAccess .ss s.stackSize (below s n.bytes (stackTop s)) [n.bytes] .write = .ok addrs) :
    ∃ t, nearCall n target s = finishCall t ∧ SameElse s t ∧ t.status = s.status ∧ t.draws = s.draws ∧ t.pc = target ∧
      StackMoved (below s n.bytes (stackTop s)) s t ∧ StoredAt addrs s.nextPc s t := by
  refine ⟨(s.pushed (s.slots n 1) [addrs] [s.nextPc]).setPc target, ?_, by simp, ?_, ?_, rfl, ?_⟩
  · rw [nearCall_of_room h (within_of_segAccess hp), hp]
    rfl
  · rw [State.pushed_eq]
    rfl
  · rw [State.pushed_eq]
    rfl
  · exact nearPush_leaves rfl pushed_mem pushed_stored

end

/-- Each near form, once its registers and its operand are read. -/
theorem exec_of_nearCall {s : State} {n : OpSize} {target : DWord} {regs : List Reg} {i : Instr}
    (form : NearCall s n target regs i) (hr : Readable s regs) : exec i s = toOutcome (nearCall n target s) := by
  have reads {w : Nat} {p : Place w} {from_ : List Nat} (h : s.openPlace p .read = .ok from_) :
      s.readOperand (.place p) = .ok (s.peek p from_) :=
    State.readOperand_eq_ok.mpr ⟨from_, h, rfl⟩
  cases form with
  | rel16 rel =>
    rw [← wrap_s16_eq_and]
    exact congrArg toOutcome (checkNat_bind_of_readable hr _)
  | rel32 rel => exact congrArg toOutcome (checkNat_bind_of_readable hr _)
  | rm16 rm from_ h =>
    refine congrArg toOutcome ((checkNat_bind_of_readable hr _).trans ?_)
    rw [reads h, ok_bind]
  | rm32 rm from_ h =>
    refine congrArg toOutcome ((checkNat_bind_of_readable hr _).trans ?_)
    rw [reads h, ok_bind]

end Sys2Proof.Machine

section

open Sys2Proof Sys2Proof.Machine Sys2Proof.Claims

/-- Settles O41: the call completes, and no trap ends it. -/
theorem nearCallPushesTheReturnOffset : Obligations.NearCallPushesTheReturnOffset := by
  intro s n target regs i addrs form hr htarget hpush htb
  obtain ⟨t, run, kept, rest⟩ := nearCall_completes htarget hpush
  refine ⟨t, ?_, kept, rest⟩
  rw [exec_of_nearCall form hr, run]
  exact finishCall_of_noBranchTrap (by rw [kept]) (by rw [kept]) htb

/-- Settles O42: the first check that fails decides. -/
theorem nearCallChecksTargetThenStack : Obligations.NearCallChecksTargetThenStack := by
  intro s n target regs i form hr
  rw [exec_of_nearCall form hr]
  exact ⟨fun h => congrArg toOutcome (nearCall_beyond h),
    fun h hroom => congrArg toOutcome (nearCall_of_noRoom h hroom),
    fun f h hf => congrArg toOutcome (nearCall_of_fault h hf)⟩

end

namespace Sys2Proof.Machine

open Sys2Proof.Claims

/-! ### Far calls at one privilege level (44_call.md R256, R259, R260, R265) -/

/-- The common tail of the far calls that stay at their privilege level: the room for both pushes, the limit of the
target, the accesses of the pushes, and then `k`. -/
def farPush (n : OpSize) (limit : Nat) (target : DWord) (k : List (List Nat) → Result State) (s : State) :
    Result State := do
  stopIf (!s.segs.ss.hasRoom n.bytes (s.slots n 2)) s.ss0
  stopIf (decide (limit < target.toNat)) s.gp0
  let addrs ← s.openSlots n.bytes (s.slots n 2)
  k addrs

/-- The state after such a call, with `g` as its CS. -/
def State.farCalled (s : State) (n : OpSize) (addrs : List (List Nat)) (g : Segment) (target : DWord) : State :=
  (((s.pushed (s.slots n 2) addrs s.farReturn).setCs g).setPc target).drew 1

theorem farReal_eq_farPush (n : OpSize) (sel : Word) (off : DWord) (s : State) :
    farReal n sel off s = farPush n 0xFFFF (n.wrap off)
      (fun addrs => finishCall (s.farCalled n addrs (s.segs.cs.loadReal sel) (n.wrap off))) s := rfl

theorem callSegment_eq_farPush (n : OpSize) (sel : Word) (d : QWord) (target : DWord) (s : State) :
    callSegment n sel d target s = farPush n (descLimit d).toNat target
      (fun addrs => .ok (s.farCalled n addrs (Segment.ofDescriptor (withRpl sel s.cpl) d) target)) s := rfl

section
variable {s : State} {n : OpSize} {limit : Nat} {target : DWord} {k : List (List Nat) → Result State}

theorem farPush_of_noRoom (h : ¬FarWithin n s) : farPush n limit target k s = .error s.ss0 := by
  have full : s.segs.ss.hasRoom n.bytes (s.slots n 2) = false := by
    rwa [← Bool.not_eq_true, hasRoom_two_iff]
  rw [farPush, full]
  rfl

variable (hroom : FarWithin n s)
include hroom

theorem farPush_beyond (h : limit < target.toNat) : farPush n limit target k s = .error s.gp0 := by
  rw [farPush, hasRoom_two_iff.mpr hroom, decide_eq_true h]
  rfl

theorem farPush_of_within (h : target.toNat ≤ limit) :
    farPush n limit target k s = s.openSlots n.bytes (s.slots n 2) >>= k := by
  rw [farPush, hasRoom_two_iff.mpr hroom, decide_eq_false (Nat.not_lt.mpr h)]
  rfl

theorem farPush_of_fault (h : target.toNat ≤ limit) {f : Fault} (hf : FarPushFaults n f s) :
    farPush n limit target k s = .error (.fault f) := by
  rw [farPush_of_within hroom h, openSlots_of_farPushFaults hf]
  rfl

end

theorem farPush_of_farRoom {s : State} {n : OpSize} {limit : Nat} {target : DWord}
    {k : List (List Nat) → Result State} {cs ip : List Nat} (hroom : FarRoom n cs ip s) (h : target.toNat ≤ limit) :
    farPush n limit target k s = k [cs, ip] := by
  rw [farPush_of_within (farWithin_of_farRoom hroom) h, openSlots_of_farRoom hroom]
  rfl

section
variable (s : State) (n : OpSize) (addrs : List (List Nat)) (g : Segment) (target : DWord)

/-- Everything that such a call changes. -/
theorem farCalled_eq : s.farCalled n addrs g target =
    { s with
      regs := (s.farCalled n addrs g target).regs, pc := target, mem := (s.farCalled n addrs g target).mem,
      stored := (s.farCalled n addrs g target).stored, draws := s.draws + 1, segs := { s.segs with cs := g } } := by
  unfold State.farCalled
  rw [State.pushed_eq]
  rfl

theorem farReturnPushed_farCalled (cs ip : List Nat) : FarReturnPushed n cs ip s (s.farCalled n [cs, ip] g target) :=
  farPushes_leave rfl pushed_mem pushed_stored

end

/-! ### The far forms (44_call.md R254, R255) -/

theorem wrap_s16_setWidth (x : Word) : OpSize.s16.wrap (x.setWidth 32) = x.setWidth 32 := by
  apply BitVec.eq_of_toNat_eq
  rw [wrap_s16_toNat, BitVec.toNat_setWidth]
  omega

theorem toNat_append_byte {n : Nat} (x : BitVec n) (b : Byte) : (x ++ b).toNat = b.toNat + 256 * x.toNat := by
  have low : b.toNat < 2 ^ 8 := b.isLt
  rw [BitVec.toNat_append, ← Nat.shiftLeft_add_eq_or_of_lt low, Nat.shiftLeft_eq]
  omega

section
variable (s : State) (a b c d : Nat)

theorem load16_pair : s.load 16 [a, b] = Memory.read s.mem b ++ Memory.read s.mem a := by
  apply BitVec.eq_of_toNat_eq
  have low := (Memory.read s.mem a).isLt
  have high := (Memory.read s.mem b).isLt
  simp only [State.load, List.map_cons, List.map_nil, leNat, BitVec.toNat_ofNat, toNat_append_byte]
  omega

theorem load32_pair : s.load 32 [a, b] = (Memory.read s.mem b ++ Memory.read s.mem a).setWidth 32 := by
  apply BitVec.eq_of_toNat_eq
  simp only [State.load, List.map_cons, List.map_nil, leNat, BitVec.toNat_ofNat, BitVec.toNat_setWidth,
    toNat_append_byte, Nat.mul_zero, Nat.add_zero]

theorem load32_quad : s.load 32 [a, b, c, d] =
    Memory.read s.mem d ++ Memory.read s.mem c ++ Memory.read s.mem b ++ Memory.read s.mem a := by
  apply BitVec.eq_of_toNat_eq
  have low := (Memory.read s.mem a).isLt
  have second := (Memory.read s.mem b).isLt
  have third := (Memory.read s.mem c).isLt
  have high := (Memory.read s.mem d).isLt
  simp only [State.load, List.map_cons, List.map_nil, leNat, BitVec.toNat_ofNat, toNat_append_byte]
  omega

end

section
variable {s : State} {n : OpSize} {sel : Word} {off : DWord} {regs : List Reg} {i : Instr}
  (form : Claims.FarCall s n sel off regs i)
include form

/-- The offset that a form holds has its operand size. -/
theorem wrap_of_farCall : n.wrap off = off := by
  cases form with
  | ptr16 | m16x16 => exact wrap_s16_setWidth _
  | ptr32 | m16x32 => rfl

/-- Each far form, once its registers and its pointer are read. -/
theorem exec_of_farCall (hr : Readable s regs) : exec i s = toOutcome (farCall n sel off s) := by
  cases form with
  | ptr16 | ptr32 => exact congrArg toOutcome (checkNat_bind_of_readable hr _)
  | m16x16 m o0 o1 s0 s1 h =>
    refine congrArg toOutcome ((checkNat_bind_of_readable hr _).trans ?_)
    have pointer : s.readFarPointer .s16 m = .ok (Memory.read s.mem s1 ++ Memory.read s.mem s0,
        (Memory.read s.mem o1 ++ Memory.read s.mem o0).setWidth 32) := by
      rw [State.readFarPointer, ← load16_pair, ← load32_pair]
      exact congrArg (· >>= _) h
    rw [pointer, ok_bind]
  | m16x32 m o0 o1 o2 o3 s0 s1 h =>
    refine congrArg toOutcome ((checkNat_bind_of_readable hr _).trans ?_)
    have pointer : s.readFarPointer .s32 m = .ok (Memory.read s.mem s1 ++ Memory.read s.mem s0,
        Memory.read s.mem o3 ++ Memory.read s.mem o2 ++ Memory.read s.mem o1 ++ Memory.read s.mem o0) := by
      rw [State.readFarPointer, ← load16_pair, ← load32_quad]
      exact congrArg (· >>= _) h
    rw [pointer, ok_bind]

theorem exec_farReal (hr : Readable s regs) (hp : s.protectedMode = false) :
    exec i s = toOutcome (farPush n 0xFFFF off
      (fun addrs => finishCall (s.farCalled n addrs (s.segs.cs.loadReal sel) off)) s) := by
  rw [exec_of_farCall form hr, farCall, hp]
  simp only [farReal_eq_farPush, wrap_of_farCall form]

end

/-- What a far call leaves outside protected mode once every check has passed, whether or not the trap ends it. -/
theorem farReal_completes {s : State} {n : OpSize} {sel : Word} {off : DWord} {regs : List Reg} {i : Instr}
    {cs ip : List Nat} (form : Claims.FarCall s n sel off regs i) (hr : Readable s regs) (hp : s.protectedMode = false)
    (hroom : FarRoom n cs ip s) (h : off.toNat ≤ 0xFFFF) :
    ∃ t, exec i s = toOutcome (finishCall t) ∧ FarReturnPushed n cs ip s t ∧
      t = { s with
        regs := t.regs, pc := off, mem := t.mem, stored := t.stored, draws := s.draws + 1,
        segs := { s.segs with
          cs := { s.segs.cs with selector := sel, base := BitVec.ofNat 32 (sel.toNat * 16), limit := 0xFFFF } } } := by
  have base : s.segs.cs.loadReal sel =
      { s.segs.cs with selector := sel, base := BitVec.ofNat 32 (sel.toNat * 16), limit := 0xFFFF } := by
    have shift : sel.setWidth 32 <<< 4 = BitVec.ofNat 32 (sel.toNat * 16) := by
      apply BitVec.eq_of_toNat_eq
      simp [Nat.shiftLeft_eq]
    rw [← shift]
    rfl
  refine ⟨s.farCalled n [cs, ip] (s.segs.cs.loadReal sel) off, ?_, farReturnPushed_farCalled .., ?_⟩
  · rw [exec_farReal form hr hp, farPush_of_farRoom hroom h]
  · rw [← base]
    exact farCalled_eq ..

end Sys2Proof.Machine

section

open Sys2Proof Sys2Proof.Machine Sys2Proof.Claims

/-- Settles O43: the checks of `farPush` with the limit FFFFH. -/
theorem farCallOutsideProtectedMode : Obligations.FarCallOutsideProtectedMode := by
  intro s n sel off regs i form hp hr code
  have run := exec_farReal form hr hp
  refine ⟨fun hroom => ?_, fun hroom h => ?_, fun hroom h f hf => ?_, fun cs ip hroom h htb => ?_⟩
  · rw [run, farPush_of_noRoom hroom]
    rfl
  · rw [run, farPush_beyond hroom h]
    rfl
  · rw [run, farPush_of_fault hroom h hf]
    rfl
  · obtain ⟨t, run, pushed, frame⟩ := farReal_completes form hr hp hroom h
    refine ⟨t, ?_, pushed, frame⟩
    rw [run]
    exact finishCall_of_noBranchTrap (by rw [frame]) (by rw [frame]) htb

end

namespace Sys2Proof.Machine

open Sys2Proof.Claims

/-! ### Descriptors (44_call.md R258) -/

theorem nullSelector_eq_true {sel : Word} : nullSelector sel = true ↔ sel.extractLsb' 2 14 = 0 := by
  simp [nullSelector]

theorem nullSelector_eq_false {sel : Word} : nullSelector sel = false ↔ sel.extractLsb' 2 14 ≠ 0 := by
  simp [nullSelector]

/-- The effective limit is the one that the statements spell out. -/
theorem descLimit_toNat (d : QWord) : (descLimit d).toNat = limitOf d := by
  have high := (d.extractLsb' 48 4).isLt
  have low := (d.extractLsb' 0 16).isLt
  have raw : (d.extractLsb' 48 4 ++ d.extractLsb' 0 16).toNat =
      (d.extractLsb' 48 4).toNat * 2 ^ 16 + (d.extractLsb' 0 16).toNat := by
    rw [BitVec.toNat_append, ← Nat.shiftLeft_add_eq_or_of_lt low, Nat.shiftLeft_eq]
  unfold descLimit limitOf
  cases d.getLsbD 55 with
  | true =>
    have granular : (0xFFF : BitVec 12).toNat < 2 ^ 12 := BitVec.isLt _
    simp only [if_true]
    rw [BitVec.toNat_append, raw, ← Nat.shiftLeft_add_eq_or_of_lt granular, Nat.shiftLeft_eq]
    rfl
  | false =>
    simp only [Bool.false_eq_true, if_false]
    rw [BitVec.toNat_setWidth, raw]
    omega

theorem describes_ofDescriptor (sel : Word) (d : QWord) : Describes d (Segment.ofDescriptor sel d) := by
  refine ⟨rfl, descLimit_toNat d, rfl, rfl, rfl, rfl, fun code => ?_, fun data => ?_⟩
  · simp only [Segment.ofDescriptor, code, Bool.not_true, Bool.true_and, Bool.false_and, Bool.false_or, and_self]
  · simp only [Segment.ofDescriptor, data, Bool.not_false, Bool.true_and, Bool.false_and, Bool.true_or, and_self]

section
variable {d : QWord}

theorem descKind_code (hs : d.getLsbD 44 = true) (hc : d.getLsbD 43 = true) : descKind d = .code := by
  rw [descKind, hs, hc]

theorem descKind_data (hs : d.getLsbD 44 = true) (hc : d.getLsbD 43 = false) : descKind d = .data := by
  rw [descKind, hs, hc]

theorem descKind_system (hs : d.getLsbD 44 = false) : descKind d = systemKind (d.extractLsb' 40 4) := by
  rw [descKind, hs]
  rfl

theorem systemKind_ne_code : ∀ t, systemKind t ≠ .code := by
  decide

theorem systemKind_ne_data : ∀ t, systemKind t ≠ .data := by
  decide

theorem descKind_eq_code : descKind d = .code ↔ d.getLsbD 44 = true ∧ d.getLsbD 43 = true := by
  refine ⟨fun h => ?_, fun ⟨hs, hc⟩ => descKind_code hs hc⟩
  cases hs : d.getLsbD 44 with
  | false => exact absurd ((descKind_system hs).symm.trans h) (systemKind_ne_code _)
  | true =>
    refine ⟨rfl, ?_⟩
    by_contra hc
    rw [descKind_data hs (Bool.eq_false_of_not_eq_true hc)] at h
    cases h

theorem descKind_eq_data : descKind d = .data ↔ d.getLsbD 44 = true ∧ d.getLsbD 43 = false := by
  refine ⟨fun h => ?_, fun ⟨hs, hc⟩ => descKind_data hs hc⟩
  cases hs : d.getLsbD 44 with
  | false => exact absurd ((descKind_system hs).symm.trans h) (systemKind_ne_data _)
  | true =>
    refine ⟨rfl, ?_⟩
    by_contra hc
    rw [descKind_code hs (Bool.eq_true_of_not_eq_false hc)] at h
    cases h

end

/-- A selector that is not null, within its table, and whose descriptor is read. -/
structure Names (s : State) (sel : Word) (d : QWord) : Prop where
  notNull : sel.extractLsb' 2 14 ≠ 0
  inTable : s.inTable sel = true
  read : s.readDescriptor sel = .ok d

/-! ### Faults in protected mode (60_exceptions.md R353) -/

section
variable {s : State} (hp : s.protectedMode = true)
include hp

theorem outcome_raiseSel (e : Exception) (sel : Word) :
    toOutcome (.error (s.raiseSel e sel)) = selectorFault s e sel := by
  have protectedNotReal : s.realMode = false := by
    rw [State.protectedMode, Bool.and_eq_true] at hp
    rw [State.realMode, hp.1]
    rfl
  rw [State.raiseSel, State.raiseCode, protectedNotReal]
  rfl

theorem outcome_gp0 : toOutcome (.error s.gp0) = selectorFault s .gp 0 := outcome_raiseSel hp .gp 0

theorem outcome_ss0 : toOutcome (.error s.ss0) = selectorFault s .ss 0 := outcome_raiseSel hp .ss 0

end

/-! ### Far calls in protected mode (44_call.md R257) -/

/-- A far call through a descriptor, by its kind. -/
def farByKind (k : DescKind) (n : OpSize) (sel : Word) (off : DWord) (d : QWord) (s : State) : Result State :=
  match k with
  | .code => farCode n sel off d s
  | .callGate g => farCallGate g sel d s
  | .taskGate => farTaskGate sel d s
  | .tss busy => farTss sel busy d s
  | .data => .error (s.raiseSel .gp sel)
  | .other => .error (s.raiseSel .gp sel)

section
variable {s : State} {n : OpSize} {sel : Word} {off : DWord} {d : QWord}

theorem farProtected_of_null (h : sel.extractLsb' 2 14 = 0) : farProtected n sel off s = .error s.gp0 := by
  rw [farProtected, nullSelector_eq_true.mpr h]
  rfl

theorem farProtected_outside (h : sel.extractLsb' 2 14 ≠ 0) (ht : s.inTable sel = false) :
    farProtected n sel off s = .error (s.raiseSel .gp sel) := by
  rw [farProtected, nullSelector_eq_false.mpr h, ht]
  rfl

theorem farProtected_of_unread {e : Stop} (h : sel.extractLsb' 2 14 ≠ 0) (ht : s.inTable sel = true)
    (hd : s.readDescriptor sel = .error e) : farProtected n sel off s = .error e := by
  rw [farProtected, nullSelector_eq_false.mpr h, ht, hd]
  rfl

theorem farProtected_of_names (h : Names s sel d) :
    farProtected n sel off s = farByKind (descKind d) n sel off d s := by
  rw [farProtected, nullSelector_eq_false.mpr h.notNull, h.inTable, h.read]
  rfl

variable {regs : List Reg} {i : Instr} (form : Claims.FarCall s n sel off regs i) (hr : Readable s regs)
  (hp : s.protectedMode = true)
include form hr hp

theorem exec_farProtected : exec i s = toOutcome (farProtected n sel off s) := by
  rw [exec_of_farCall form hr, farCall, hp]

theorem exec_farByKind (h : Names s sel d) : exec i s = toOutcome (farByKind (descKind d) n sel off d s) := by
  rw [exec_farProtected form hr hp, farProtected_of_names h]

end

/-! ### Code segments (44_call.md R259, R260) -/

section
variable {s : State} {n : OpSize} {sel : Word} {off target : DWord} {d : QWord}

/-- What a call to a segment at the same level leaves once every check has passed. -/
theorem callSegment_completes {cs ip : List Nat} (hroom : FarRoom n cs ip s) (h : target.toNat ≤ limitOf d) :
    ∃ t, callSegment n sel d target s = .ok t ∧ FarReturnPushed n cs ip s t ∧
      t = { s with
        regs := t.regs, pc := target, mem := t.mem, stored := t.stored, draws := s.draws + 1,
        segs := { s.segs with cs := t.segs.cs } } ∧
      t.segs.cs.selector = sel.extractLsb' 2 14 ++ s.cpl ∧ Describes d t.segs.cs := by
  rw [← descLimit_toNat] at h
  exact ⟨_, (callSegment_eq_farPush ..).trans (farPush_of_farRoom hroom h), farReturnPushed_farCalled ..,
    farCalled_eq .., rfl, describes_ofDescriptor _ d⟩

theorem callSegment_of_noRoom (hroom : ¬FarWithin n s) : callSegment n sel d target s = .error s.ss0 := by
  rw [callSegment_eq_farPush, farPush_of_noRoom hroom]

theorem callSegment_beyond (hroom : FarWithin n s) (h : limitOf d < target.toNat) :
    callSegment n sel d target s = .error s.gp0 := by
  rw [← descLimit_toNat] at h
  rw [callSegment_eq_farPush, farPush_beyond hroom h]

theorem callSegment_of_fault (hroom : FarWithin n s) (h : target.toNat ≤ limitOf d) {f : Fault}
    (hf : FarPushFaults n f s) : callSegment n sel d target s = .error (.fault f) := by
  rw [← descLimit_toNat] at h
  rw [callSegment_eq_farPush, farPush_of_fault hroom h hf]

/-- The privilege rules of a direct call to a code segment. -/
theorem deniedCode_eq_false : s.deniedCode sel d = false ↔
    if d.getLsbD 42 = true then (d.extractLsb' 45 2).toNat ≤ s.cpl.toNat
    else (sel.extractLsb' 0 2).toNat ≤ s.cpl.toNat ∧ d.extractLsb' 45 2 = s.cpl := by
  unfold State.deniedCode
  cases d.getLsbD 42 with
  | true =>
    simp only [if_true, decide_eq_false_iff_not, Nat.not_lt]
    rfl
  | false =>
    simp only [Bool.or_eq_false_iff, decide_eq_false_iff_not, Nat.not_lt, bne_eq_false_iff_eq]
    rfl

theorem farCode_of_allowed (ha : s.deniedCode sel d = false) (hpr : d.getLsbD 47 = true) :
    farCode n sel off d s = callSegment n sel d (n.wrap off) s >>= finishCall := by
  rw [farCode, ha, descPresent, hpr]
  rfl

end

section
variable {s : State} {n : OpSize} {sel : Word} {off : DWord} {regs : List Reg} {i : Instr} {d : QWord}
  (form : Claims.FarCall s n sel off regs i) (hp : s.protectedMode = true) (hr : Readable s regs)
  (names : Names s sel d) (hs : d.getLsbD 44 = true) (hc : d.getLsbD 43 = true)
  (ha : s.deniedCode sel d = false) (hpr : d.getLsbD 47 = true)
include form hp hr names hs hc ha hpr

theorem exec_farCode : exec i s = toOutcome (callSegment n sel d off s >>= finishCall) := by
  rw [exec_farByKind form hr hp names, descKind_code hs hc, farByKind, farCode_of_allowed ha hpr, wrap_of_farCall form]

/-- What a far call to a code segment leaves once every check has passed, whether or not the trap ends it. -/
theorem farCode_completes {cs ip : List Nat} (hroom : FarRoom n cs ip s) (h : off.toNat ≤ limitOf d) :
    ∃ t, exec i s = toOutcome (finishCall t) ∧ FarReturnPushed n cs ip s t ∧
      t = { s with
        regs := t.regs, pc := off, mem := t.mem, stored := t.stored, draws := s.draws + 1,
        segs := { s.segs with cs := t.segs.cs } } ∧
      t.segs.cs.selector = sel.extractLsb' 2 14 ++ s.cpl ∧ Describes d t.segs.cs := by
  obtain ⟨t, run, leaves⟩ := callSegment_completes (sel := sel) hroom h
  refine ⟨t, ?_, leaves⟩
  rw [exec_farCode form hp hr names hs hc ha hpr, run]
  rfl

end

end Sys2Proof.Machine

section

open Sys2Proof Sys2Proof.Machine Sys2Proof.Claims

/-- Settles O44: the checks of `callSegment` with the limit of the descriptor. -/
theorem farCallToACodeSegment : Obligations.FarCallToACodeSegment := by
  intro s n sel off regs i d form hp hr notNull inTable read hs hc ha hpr
  have allowed : s.deniedCode sel d = false := deniedCode_eq_false.mpr ha
  have names : Names s sel d := ⟨notNull, inTable, read⟩
  have run := exec_farCode form hp hr names hs hc allowed hpr
  refine ⟨fun hroom => ?_, fun hroom h => ?_, fun hroom h f hf => ?_, fun cs ip hroom h htb => ?_⟩
  · rw [run, callSegment_of_noRoom hroom]
    exact outcome_ss0 hp
  · rw [run, callSegment_beyond hroom h]
    exact outcome_gp0 hp
  · rw [run, callSegment_of_fault hroom h hf]
    rfl
  · obtain ⟨t, run, pushed, frame, cs⟩ := farCode_completes form hp hr names hs hc allowed hpr hroom h
    refine ⟨t, ?_, pushed, frame, cs⟩
    rw [run]
    exact finishCall_of_noBranchTrap (by rw [frame]) (by rw [frame]) htb

end

namespace Sys2Proof.Machine

open Sys2Proof.Claims

/-! ### Gates and task state segments (44_call.md R261, R262, R266, R267) -/

theorem systemKind_available : ∀ t : BitVec 4, systemKind t = .tss false ↔ t.toNat ∈ [1, 9] := by
  decide

theorem systemKind_busy : ∀ t : BitVec 4, t.toNat ∈ [3, 11] → systemKind t = .tss true := by
  decide

theorem systemKind_other : ∀ t : BitVec 4, t.toNat ∉ [1, 3, 4, 5, 9, 11, 12] → systemKind t = .other := by
  decide

theorem systemKind_taskGate : ∀ t : BitVec 4, t.toNat ∈ [5] → systemKind t = .taskGate := by
  decide

theorem systemKind_gate : ∀ t : BitVec 4, t.toNat ∈ [4, 5, 12] →
    systemKind t ∈ [.callGate .s16, .callGate .s32, .taskGate] := by
  decide

theorem descKind_eq_available {d : QWord} :
    descKind d = .tss false ↔ d.getLsbD 44 = false ∧ (d.extractLsb' 40 4).toNat ∈ [1, 9] := by
  cases hs : d.getLsbD 44 with
  | false => simp only [descKind_system hs, systemKind_available, true_and]
  | true =>
    cases hc : d.getLsbD 43 with
    | false => simp [descKind_data hs hc]
    | true => simp [descKind_code hs hc]

/-- A kind of descriptor that a far call may go through: a gate, or an available TSS in the GDT. -/
inductive Callable (sel : Word) : DescKind → Prop where
  | callGate (g : OpSize) : Callable sel (.callGate g)
  | taskGate : Callable sel .taskGate
  | tss (h : sel.getLsbD 2 = false) : Callable sel (.tss false)

theorem callable_of_type {sel : Word} {t : BitVec 4}
    (h : t.toNat ∈ [4, 5, 12] ∨ t.toNat ∈ [1, 9] ∧ sel.getLsbD 2 = false) : Callable sel (systemKind t) := by
  rcases h with gate | ⟨available, inGdt⟩
  · have kinds := systemKind_gate t gate
    simp only [List.mem_cons, List.not_mem_nil, or_false] at kinds
    rcases kinds with h | h | h <;> rw [h]
    · exact .callGate .s16
    · exact .callGate .s32
    · exact .taskGate
  · rw [(systemKind_available t).mpr available]
    exact .tss inGdt

section
variable {s : State} {n : OpSize} {sel : Word} {off : DWord} {d : QWord} {k : DescKind}

theorem deniedGate_eq_true : s.deniedGate sel d = true ↔
    (d.extractLsb' 45 2).toNat < s.cpl.toNat ∨ (d.extractLsb' 45 2).toNat < (sel.extractLsb' 0 2).toNat := by
  rw [State.deniedGate, Bool.or_eq_true, decide_eq_true_iff, decide_eq_true_iff]
  rfl

theorem deniedGate_eq_false : s.deniedGate sel d = false ↔
    s.cpl.toNat ≤ (d.extractLsb' 45 2).toNat ∧ (sel.extractLsb' 0 2).toNat ≤ (d.extractLsb' 45 2).toNat := by
  rw [← Bool.not_eq_true, deniedGate_eq_true, not_or, Nat.not_lt, Nat.not_lt]

/-- A gate or a TSS that the privilege test denies raises `#GP`, as any other descriptor does that is no code
segment. -/
theorem farByKind_of_deniedGate (hk : k ≠ .code) (h : s.deniedGate sel d = true) :
    farByKind k n sel off d s = .error (s.raiseSel .gp sel) := by
  cases k with
  | code => exact absurd rfl hk
  | callGate g =>
    rw [farByKind, farCallGate, h]
    rfl
  | taskGate =>
    rw [farByKind, farTaskGate, h]
    rfl
  | tss busy =>
    rw [farByKind, farTss, h]
    rfl
  | data | other => rfl

theorem farTss_unavailable {busy : Bool} (h : busy = true ∨ sel.getLsbD 2 = true) :
    farTss sel busy d s = .error (s.raiseSel .gp sel) := by
  have unavailable : (s.deniedGate sel d || selectorLocal sel || busy) = true := by
    rcases h with h | h
    · rw [h, Bool.or_true]
    · rw [selectorLocal, h, Bool.or_true, Bool.true_or]
  rw [farTss, unavailable]
  rfl

/-- What a call gate, a task gate and an available TSS do after their own tests and outside the Itanium System
Environment. -/
def farAfterGate (k : DescKind) (d : QWord) (s : State) : Result State :=
  match k with
  | .callGate g => gateTarget g d s
  | .taskGate => do
    stopIf (selectorLocal (gateSelector d) || !s.inTable (gateSelector d)) (s.raiseSel .gp (gateSelector d))
    let t ← s.readDescriptor (gateSelector d)
    stopIf (descKind t != .tss false) (s.raiseSel .gp (gateSelector d))
    stopIf (!descPresent t) (s.raiseSel .np (gateSelector d))
    .error (.refused .taskSwitch)
  | _ => .error (.refused .taskSwitch)

/-- They share three tests: privilege, present, environment. -/
theorem farByKind_of_callable (h : Callable sel k) :
    farByKind k n sel off d s = (do
      stopIf (s.deniedGate sel d) (s.raiseSel .gp sel)
      stopIf (!descPresent d) (s.raiseSel .np sel)
      stopIf s.itaniumSE (s.raiseIntercept .gateCall)
      farAfterGate k d s) := by
  cases h with
  | callGate g => rfl
  | taskGate => rfl
  | tss h =>
    rw [farByKind, farTss, selectorLocal, h, Bool.or_false, Bool.or_false]
    rfl

section
variable (h : Callable sel k) (hg : s.deniedGate sel d = false)
include h hg

theorem farByKind_of_notPresent (hpr : d.getLsbD 47 = false) :
    farByKind k n sel off d s = .error (s.raiseSel .np sel) := by
  rw [farByKind_of_callable h, hg, descPresent, hpr]
  rfl

variable (hpr : d.getLsbD 47 = true)
include hpr

theorem farByKind_intercepted (he : s.itaniumSE = true) :
    farByKind k n sel off d s = .error (s.raiseIntercept .gateCall) := by
  rw [farByKind_of_callable h, hg, descPresent, hpr, he]
  rfl

theorem farByKind_passed (he : s.itaniumSE = false) : farByKind k n sel off d s = farAfterGate k d s := by
  rw [farByKind_of_callable h, hg, descPresent, hpr, he]
  rfl

end

end

theorem readable_of_ia32 {s : State} {regs : List Reg} (he : s.itaniumSE = false) : Readable s regs :=
  fun h => absurd (he.symm.trans h) Bool.false_ne_true

section
variable {s : State} {types : List Nat} {gate : QWord} {i : Instr} (h : ReachesGate s types gate i)
include h

theorem protectedMode_of_reachesGate : s.protectedMode = true := by
  obtain ⟨-, -, -, -, -, hp, -⟩ := h
  exact hp

/-- A far call that reaches a gate goes on to what the gate leads to. -/
theorem exec_of_reachesGate {k : DescKind} (hc : ∀ sel, Callable sel k)
    (hk : ∀ t : BitVec 4, t.toNat ∈ types → systemKind t = k) : exec i s = toOutcome (farAfterGate k gate s) := by
  obtain ⟨n, sel, off, regs, form, hp, he, notNull, inTable, read, hs, htype, hcpl, hrpl, hpr⟩ := h
  have kind : descKind gate = k := (descKind_system hs).trans (hk _ htype)
  rw [exec_farByKind form (readable_of_ia32 he) hp ⟨notNull, inTable, read⟩, kind,
    farByKind_passed (hc sel) (deniedGate_eq_false.mpr ⟨hcpl, hrpl⟩) hpr he]

end

/-! ### Task gates (44_call.md R266) -/

section
variable {s : State} {gate t : QWord}

theorem taskGate_outside (h : (gateSelector gate).getLsbD 2 = true ∨ s.inTable (gateSelector gate) = false) :
    farAfterGate .taskGate gate s = .error (s.raiseSel .gp (gateSelector gate)) := by
  have outside : (selectorLocal (gateSelector gate) || !s.inTable (gateSelector gate)) = true := by
    rcases h with h | h
    · rw [selectorLocal, h, Bool.true_or]
    · rw [h, Bool.not_false, Bool.or_true]
  rw [farAfterGate, outside]
  rfl

/-- A task gate whose selector names a descriptor of the GDT is decided by the descriptor. -/
theorem taskGate_of_read (hl : (gateSelector gate).getLsbD 2 = false) (ht : s.inTable (gateSelector gate) = true)
    (hd : s.readDescriptor (gateSelector gate) = .ok t) :
    farAfterGate .taskGate gate s = (do
      stopIf (descKind t != .tss false) (s.raiseSel .gp (gateSelector gate))
      stopIf (!descPresent t) (s.raiseSel .np (gateSelector gate))
      .error (.refused .taskSwitch)) := by
  rw [farAfterGate, selectorLocal, hl, ht, hd]
  rfl

end

end Sys2Proof.Machine

section

open Sys2Proof Sys2Proof.Machine Sys2Proof.Claims

/-- Settles O47: the tests that gates and task segments share end in the intercept. -/
theorem gatesAreIntercepted : Obligations.GatesAreIntercepted := by
  intro s n sel off regs i d form hp he hr notNull inTable read hs htype hcpl hrpl hpr
  rw [exec_farByKind form hr hp ⟨notNull, inTable, read⟩, descKind_system hs,
    farByKind_intercepted (callable_of_type htype) (deniedGate_eq_false.mpr ⟨hcpl, hrpl⟩) hpr he]
  rfl

/-- Settles O49: after its tests a task segment is refused, and a task gate by what its selector names. -/
theorem taskSwitchIsRefused : Obligations.TaskSwitchIsRefused := by
  constructor
  · intro s n sel off regs i d form hp he notNull inGdt inTable read hs htype hcpl hrpl hpr
    have kind : descKind d = .tss false := descKind_eq_available.mpr ⟨hs, htype⟩
    rw [exec_farByKind form (readable_of_ia32 he) hp ⟨notNull, inTable, read⟩, kind,
      farByKind_passed (.tss inGdt) (deniedGate_eq_false.mpr ⟨hcpl, hrpl⟩) hpr he]
    rfl
  · intro s gate i h tsel
    have hp := protectedMode_of_reachesGate h
    rw [exec_of_reachesGate h (fun _ => .taskGate) systemKind_taskGate]
    refine ⟨fun outside => ?_, fun t inGdt inTable read => ?_⟩
    · rw [taskGate_outside outside]
      exact outcome_raiseSel hp .gp tsel
    · rw [taskGate_of_read inGdt inTable read]
      refine ⟨fun unavailable => ?_, fun hs htype => ?_⟩
      · have kind : (descKind t != .tss false) = true := by
          rw [bne_iff_ne, ne_eq, descKind_eq_available, not_and_or, Bool.not_eq_false]
          exact unavailable
        rw [kind]
        exact outcome_raiseSel hp .gp tsel
      · rw [descKind_eq_available.mpr ⟨hs, htype⟩, descPresent]
        cases t.getLsbD 47 with
        | true => rfl
        | false => exact outcome_raiseSel hp .np tsel

end

/-! ### System reads and descriptor tables (44_call.md R257, R258) -/

namespace Sys2Proof.Machine

open Sys2Proof.Claims

theorem linearsFrom_eq_map (la : DWord) (n : Nat) :
    linearsFrom la n = (List.range n).map fun k => la + BitVec.ofNat 32 k := by
  induction n generalizing la with
  | zero => rfl
  | succ n ih =>
    have next (k : Nat) : la + 1#32 + BitVec.ofNat 32 k = la + BitVec.ofNat 32 (k + 1) := by
      apply BitVec.eq_of_toNat_eq
      simp
      omega
    simp only [linearsFrom, ih, List.range_succ_eq_map, List.map_cons, List.map_map, Function.comp_def, next,
      Nat.succ_eq_add_one, BitVec.ofNat_eq_ofNat, BitVec.add_zero]

theorem linearsFrom_length (la : DWord) (n : Nat) : (linearsFrom la n).length = n := by
  simp [linearsFrom_eq_map]

theorem linearsFrom_getElem? (la : DWord) {n k : Nat} (hk : k < n) :
    (linearsFrom la n)[k]? = some (la + BitVec.ofNat 32 k) := by
  simp [linearsFrom_eq_map, hk]

/-- A value is known by its bytes. -/
theorem eq_of_bytes {w n : Nat} {u v : BitVec w} (hw : w = 8 * n)
    (h : ∀ k < n, u.extractLsb' (8 * k) 8 = v.extractLsb' (8 * k) 8) : u = v := by
  apply BitVec.eq_of_getLsbD_eq
  intro i hi
  have bit := congrArg (fun b : Byte => b.getLsbD (i % 8)) (h (i / 8) (by omega))
  have inByte : i % 8 < 8 := Nat.mod_lt _ (by decide)
  simpa only [BitVec.getLsbD_extractLsb', inByte, decide_true, Bool.true_and, Nat.div_add_mod] using bit

theorem translateAll_total {s : State} {kind : AccessKind} {l : List DWord}
    (h : ∀ la ∈ l, ∃ x, s.translate kind la = .ok x) : ∃ p, s.translateAll kind l = .ok p := by
  induction l with
  | nil => exact ⟨[], rfl⟩
  | cons la l ih =>
    obtain ⟨x, hx⟩ := h la (.head _)
    obtain ⟨xs, hxs⟩ := ih fun la' hla => h la' (.tail _ hla)
    exact ⟨x :: xs, by rw [State.translateAll, hx, ok_bind, hxs]; rfl⟩

section
variable {s : State} {w n : Nat} {la : DWord}

/-- A system read gives the bytes at the translated addresses. -/
theorem systemRead_eq_ok (hw : w = 8 * n) {v : BitVec w} :
    s.systemRead w la n = .ok v ↔ ∀ k < n, ∃ a,
      s.translate .read (la + BitVec.ofNat 32 k) = .ok a ∧ v.extractLsb' (8 * k) 8 = Memory.read s.mem a := by
  have bytes {addrs : List Nat} (ht : s.translateAll .read (linearsFrom la n) = .ok addrs) {k : Nat} (hk : k < n) :
      ∃ a, s.translate .read (la + BitVec.ofNat 32 k) = .ok a ∧
        (s.load w addrs).extractLsb' (8 * k) 8 = Memory.read s.mem a := by
    obtain ⟨hlength, hall⟩ := translateAll_eq_ok.mp ht
    rw [linearsFrom_length] at hlength
    obtain ⟨a, ha, htranslate⟩ := hall k _ (linearsFrom_getElem? la hk)
    exact ⟨a, htranslate, load_byte s addrs (hlength ▸ hw) ha⟩
  rw [State.systemRead, bind_eq_ok]
  constructor
  · rintro ⟨addrs, ht, hv⟩ k hk
    obtain rfl : s.load w addrs = v := Except.ok.inj hv
    exact bytes ht hk
  · intro h
    have translates : ∀ x ∈ linearsFrom la n, ∃ a, s.translate .read x = .ok a := by
      intro x hx
      rw [linearsFrom_eq_map, List.mem_map] at hx
      obtain ⟨k, hk, rfl⟩ := hx
      obtain ⟨a, ha, -⟩ := h k (List.mem_range.mp hk)
      exact ⟨a, ha⟩
    obtain ⟨addrs, ht⟩ := translateAll_total translates
    refine ⟨addrs, ht, congrArg Except.ok (eq_of_bytes hw fun k hk => ?_)⟩
    obtain ⟨a, ha, hload⟩ := bytes ht hk
    obtain ⟨b, hb, hv⟩ := h k hk
    obtain rfl : a = b := Except.ok.inj (ha.symm.trans hb)
    rw [hload, hv]

/-- The first byte without a translation decides. -/
theorem systemRead_eq_error {k : Nat} {e : Stop} (hk : k < n)
    (before : ∀ j < k, ∃ a, s.translate .read (la + BitVec.ofNat 32 j) = .ok a)
    (he : s.translate .read (la + BitVec.ofNat 32 k) = .error e) : s.systemRead w la n = .error e := by
  have stops : s.translateAll .read (linearsFrom la n) = .error e := by
    refine translateAll_eq_error (linearsFrom_getElem? la hk) (fun i la' hi hla => ?_) he
    obtain rfl : la + BitVec.ofNat 32 i = la' :=
      Option.some.inj ((linearsFrom_getElem? la (hi.trans hk)).symm.trans hla)
    exact before i hi
  rw [State.systemRead, stops]
  rfl

end

theorem selectorIndex_eq (sel : Word) : selectorIndex sel = sel.toNat / 8 := by
  have small := sel.isLt
  rw [selectorIndex, BitVec.extractLsb'_toNat, Nat.shiftRight_eq_div_pow]
  omega

section
variable (s : State) (sel : Word)

theorem inTable_iff :
    let table : DWord × Nat :=
      if sel.getLsbD 2 = true then (s.ldtr.base, s.ldtr.limit.toNat) else (s.gdtr.base, s.gdtr.limit.toNat)
    s.inTable sel = true ↔ sel.toNat / 8 * 8 + 7 ≤ table.2 ∧ (sel.getLsbD 2 = true → s.ldtr.present = true) := by
  unfold State.inTable selectorLocal
  rw [selectorIndex_eq]
  cases sel.getLsbD 2 with
  | true => simp [and_comm]
  | false => simp

theorem readDescriptor_eq :
    let table : DWord × Nat :=
      if sel.getLsbD 2 = true then (s.ldtr.base, s.ldtr.limit.toNat) else (s.gdtr.base, s.gdtr.limit.toNat)
    s.readDescriptor sel = s.systemRead 64 (table.1 + BitVec.ofNat 32 (sel.toNat / 8 * 8)) 8 := by
  unfold State.readDescriptor State.tableBase selectorLocal
  rw [selectorIndex_eq]
  cases sel.getLsbD 2 <;> rfl

end

/-! ### The selector of a far call (44_call.md R257 to R267) -/

section
variable {s : State} {n : OpSize} {sel : Word} {off : DWord} {d : QWord} {k : DescKind}

theorem deniedCode_eq_true : s.deniedCode sel d = true ↔
    d.getLsbD 42 = true ∧ s.cpl.toNat < (d.extractLsb' 45 2).toNat ∨
      d.getLsbD 42 = false ∧ (s.cpl.toNat < (sel.extractLsb' 0 2).toNat ∨ d.extractLsb' 45 2 ≠ s.cpl) := by
  rw [← Bool.not_eq_false, deniedCode_eq_false]
  cases d.getLsbD 42 with
  | true => simp
  | false => simp [-BitVec.extractLsb'_toNat, imp_iff_not_or]

theorem farByKind_code_denied (h : s.deniedCode sel d = true) :
    farByKind .code n sel off d s = .error (s.raiseSel .gp sel) := by
  rw [farByKind, farCode, h]
  rfl

theorem farByKind_code_notPresent (h : s.deniedCode sel d = false) (hpr : d.getLsbD 47 = false) :
    farByKind .code n sel off d s = .error (s.raiseSel .np sel) := by
  rw [farByKind, farCode, h, descPresent, hpr]
  rfl

end

end Sys2Proof.Machine

section

open Sys2Proof Sys2Proof.Machine Sys2Proof.Claims

/-- Settles O48: the system reads byte by byte, then the tests of each kind of descriptor. -/
theorem farCallChecksTheSelector : Obligations.FarCallChecksTheSelector := by
  refine ⟨fun s w n la hw => ⟨fun v => systemRead_eq_ok hw, fun k hk before e he => systemRead_eq_error hk before he⟩,
    fun s sel => ⟨inTable_iff s sel, readDescriptor_eq s sel⟩, ?_⟩
  intro s n sel off regs i form hp hr refuse
  have run := exec_farProtected form hr hp
  have raises (e : Exception) (h : farProtected n sel off s = .error (s.raiseSel e sel)) : exec i s = refuse e := by
    rw [run, h]
    exact outcome_raiseSel hp e sel
  refine ⟨fun null => ?_, fun notNull outside => raises .gp (farProtected_outside notNull outside),
    fun f notNull inTable unread => ?_, fun d notNull inTable read => ?_⟩
  · rw [run, farProtected_of_null null]
    exact outcome_gp0 hp
  · rw [run, farProtected_of_unread notNull inTable unread]
    rfl
  have raises (e : Exception) (h : farByKind (descKind d) n sel off d s = .error (s.raiseSel e sel)) :
      exec i s = refuse e := raises e ((farProtected_of_names ⟨notNull, inTable, read⟩).trans h)
  refine ⟨fun hs hc => raises .gp ?_, fun hs htype => raises .gp ?_, fun hs hc denied => raises .gp ?_,
    fun hs hc hpr allowed => raises .np ?_, fun hs _ denied => raises .gp ?_, fun hs htype => raises .gp ?_,
    fun hs htype hcpl hrpl hpr => raises .np ?_⟩
  · rw [descKind_data hs hc]
    rfl
  · rw [descKind_system hs, systemKind_other _ htype]
    rfl
  · rw [descKind_code hs hc, farByKind_code_denied (deniedCode_eq_true.mpr denied)]
  · have notDenied : s.deniedCode sel d = false := by
      rw [deniedCode_eq_false]
      rcases allowed with ⟨conforming, h⟩ | ⟨nonconforming, h⟩
      · rwa [if_pos conforming]
      · rwa [if_neg (Bool.not_eq_true _ ▸ nonconforming)]
    rw [descKind_code hs hc, farByKind_code_notPresent notDenied hpr]
  · rw [descKind_system hs, farByKind_of_deniedGate (systemKind_ne_code _) (deniedGate_eq_true.mpr denied)]
  · rw [descKind_system hs]
    rcases htype with busy | ⟨available, inLdt⟩
    · rw [systemKind_busy _ busy, farByKind, farTss_unavailable (.inl rfl)]
    · rw [(systemKind_available _).mpr available, farByKind, farTss_unavailable (.inr inLdt)]
  · rw [descKind_system hs,
      farByKind_of_notPresent (callable_of_type htype) (deniedGate_eq_false.mpr ⟨hcpl, hrpl⟩) hpr]

end

namespace Sys2Proof.Machine

open Sys2Proof.Claims

/-! ### Call gates (44_call.md R261, R263, R265) -/

theorem gateOffset_eq (g : OpSize) (gate : QWord) : gateOffset g gate = gateTargetOffset g gate := by
  cases g <;> rfl

/-- Where a call gate that passes its target's tests leads: to the stack of the TSS, or on the caller's own. -/
def gateEnter (inner : Bool) (g : OpSize) (gate c : QWord) (s : State) : Result State :=
  match inner with
  | true => morePrivilege g gate (gateSelector gate) c s
  | false => callSegment g (gateSelector gate) c (gateOffset g gate) s

section
variable {s : State} {types : List Nat} {g : OpSize} {gate c : QWord} {i : Instr}

theorem exec_of_callGate (hk : ∀ t : BitVec 4, t.toNat ∈ types → systemKind t = .callGate g)
    (h : ReachesGate s types gate i) : exec i s = toOutcome (gateTarget g gate s) :=
  exec_of_reachesGate h (fun _ => .callGate g) hk

theorem gateTarget_of_null (h : (gateSelector gate).extractLsb' 2 14 = 0) : gateTarget g gate s = .error s.gp0 := by
  rw [gateTarget, nullSelector_eq_true.mpr h]
  rfl

theorem gateTarget_outside (h : (gateSelector gate).extractLsb' 2 14 ≠ 0)
    (ht : s.inTable (gateSelector gate) = false) :
    gateTarget g gate s = .error (s.raiseSel .gp (gateSelector gate)) := by
  rw [gateTarget, nullSelector_eq_false.mpr h, ht]
  rfl

variable (names : Names s (gateSelector gate) c)
include names

/-- The tests of the descriptor that a gate's selector names. -/
theorem gateTarget_of_names : gateTarget g gate s = (do
    stopIf (descKind c != .code || decide (s.cpl.toNat < (descDpl c).toNat)) (s.raiseSel .gp (gateSelector gate))
    stopIf (!descPresent c) (s.raiseSel .np (gateSelector gate))
    gateEnter (!c.getLsbD 42 && decide ((descDpl c).toNat < s.cpl.toNat)) g gate c s) := by
  rw [gateTarget, nullSelector_eq_false.mpr names.notNull, names.inTable, names.read]
  rfl

theorem gateTarget_of_not_code
    (h : ¬(c.getLsbD 44 = true ∧ c.getLsbD 43 = true ∧ (c.extractLsb' 45 2).toNat ≤ s.cpl.toNat)) :
    gateTarget g gate s = .error (s.raiseSel .gp (gateSelector gate)) := by
  have refused : (descKind c != .code || decide (s.cpl.toNat < (descDpl c).toNat)) = true := by
    rw [← and_assoc, ← descKind_eq_code, not_and_or, Nat.not_le] at h
    rw [Bool.or_eq_true, bne_iff_ne, decide_eq_true_iff]
    exact h
  rw [gateTarget_of_names names, refused]
  rfl

variable (h : c.getLsbD 44 = true ∧ c.getLsbD 43 = true ∧ (c.extractLsb' 45 2).toNat ≤ s.cpl.toNat)
include h

theorem gateTarget_of_code : gateTarget g gate s = (do
    stopIf (!descPresent c) (s.raiseSel .np (gateSelector gate))
    gateEnter (!c.getLsbD 42 && decide ((descDpl c).toNat < s.cpl.toNat)) g gate c s) := by
  obtain ⟨hs, hc, hl⟩ := h
  rw [gateTarget_of_names names, descKind_code hs hc, descDpl, decide_eq_false (Nat.not_lt.mpr hl)]
  rfl

theorem gateTarget_of_notPresent (hpr : c.getLsbD 47 = false) :
    gateTarget g gate s = .error (s.raiseSel .np (gateSelector gate)) := by
  rw [gateTarget_of_code names h, descPresent, hpr]
  rfl

variable (hpr : c.getLsbD 47 = true)
include hpr

theorem gateTarget_same (hl : ¬(c.getLsbD 42 = false ∧ (c.extractLsb' 45 2).toNat < s.cpl.toNat)) :
    gateTarget g gate s = callSegment g (gateSelector gate) c (gateTargetOffset g gate) s := by
  have same : (!c.getLsbD 42 && decide ((descDpl c).toNat < s.cpl.toNat)) = false := by
    rwa [← Bool.not_eq_true, Bool.and_eq_true, Bool.not_eq_true', decide_eq_true_iff]
  rw [gateTarget_of_code names h, descPresent, hpr, same, ← gateOffset_eq]
  rfl

theorem gateTarget_inner (hc : c.getLsbD 42 = false) (hl : (c.extractLsb' 45 2).toNat < s.cpl.toNat) :
    gateTarget g gate s = morePrivilege g gate (gateSelector gate) c s := by
  rw [gateTarget_of_code names h, descPresent, hpr, hc, descDpl, decide_eq_true hl]
  rfl

end

end Sys2Proof.Machine

section

open Sys2Proof Sys2Proof.Machine Sys2Proof.Claims

/-- Settles O45: the gate's selector and offset go the way of a direct call. -/
theorem callGateWithoutPrivilegeChange : Obligations.CallGateWithoutPrivilegeChange := by
  intro s n g sel off regs i cs ip gate c form hp he notNull inTable read hs htype hpr hcpl hrpl csel target cNotNull
    cInTable cRead ccs cc cpr clevel hroom htarget
  have names : Names s (gateSelector gate) c := ⟨cNotNull, cInTable, cRead⟩
  have reaches : ReachesGate s [(gate.extractLsb' 40 4).toNat] gate i :=
    ⟨n, sel, off, regs, form, hp, he, notNull, inTable, read, hs, .head _, hcpl, hrpl, hpr⟩
  have kind (t : BitVec 4) (ht : t.toNat ∈ [(gate.extractLsb' 40 4).toNat]) : systemKind t = .callGate g := by
    obtain rfl : t = gate.extractLsb' 40 4 := BitVec.eq_of_toNat_eq (List.mem_singleton.mp ht)
    rw [htype]
    cases g <;> rfl
  have code : c.getLsbD 44 = true ∧ c.getLsbD 43 = true ∧ (c.extractLsb' 45 2).toNat ≤ s.cpl.toNat := by
    refine ⟨ccs, cc, ?_⟩
    rcases clevel with same | ⟨-, conforming⟩
    · rw [same]
    · exact conforming
  have level : ¬(c.getLsbD 42 = false ∧ (c.extractLsb' 45 2).toNat < s.cpl.toNat) := by
    rintro ⟨nonconforming, inner⟩
    rcases clevel with same | ⟨conforming, -⟩
    · exact absurd inner (by rw [same]; exact Nat.lt_irrefl _)
    · exact Bool.false_ne_true (nonconforming.symm.trans conforming)
  have offset : gateTargetOffset g gate = target := by cases g <;> rfl
  obtain ⟨t, run, leaves⟩ := callSegment_completes (sel := gateSelector gate) hroom htarget
  refine ⟨t, ?_, leaves⟩
  rw [exec_of_callGate kind reaches, gateTarget_same names code cpr level, offset, run]
  rfl

end

namespace Sys2Proof.Machine

open Sys2Proof.Claims

/-! ### The new stack (44_call.md R264) -/

theorem wrap_wrap_sub (a : OpSize) (x y : DWord) : a.wrap (a.wrap x - y) = a.wrap (x - y) := by
  rw [BitVec.sub_eq_add_neg, BitVec.sub_eq_add_neg, wrap_wrap_add]

/-- The offsets of pushes, counted from where the stack pointer was. -/
theorem pushSlots_wrap (a : OpSize) (n : Nat) (sp : DWord) (count : Nat) :
    pushSlots a n (a.wrap sp) count = (List.range count).map fun k => a.wrap (sp - BitVec.ofNat 32 ((k + 1) * n)) := by
  induction count generalizing sp with
  | zero => rfl
  | succ count ih =>
    have lower (k : Nat) : sp - BitVec.ofNat 32 n - BitVec.ofNat 32 ((k + 1) * n) =
        sp - BitVec.ofNat 32 ((k + 1 + 1) * n) := by
      rw [Nat.succ_mul (k + 1), BitVec.ofNat_add, BitVec.sub_sub, BitVec.add_comm]
    simp only [pushSlots, wrap_wrap_sub, ih, lower, List.range_succ_eq_map, List.map_cons, List.map_map,
      Function.comp_def, Nat.succ_eq_add_one, Nat.zero_add, Nat.one_mul]

theorem stackSize_wrap (ss : Segment) (x : DWord) :
    ss.stackSize.wrap x = if ss.big = true then x else x &&& 0xFFFF := by
  unfold Segment.stackSize
  cases ss.big with
  | true => rfl
  | false => exact wrap_s16_eq_and x

theorem pushSlots_eq_newSlots (ss : Segment) (esp : DWord) (n count : Nat) :
    pushSlots ss.stackSize n (ss.stackSize.wrap esp) count = newSlots ss esp n count := by
  rw [pushSlots_wrap]
  simp only [stackSize_wrap, newSlots]

section
variable {s : State} {ss : Segment} {n : Nat}

theorem checkAlignment_single {g : Segment} {a : OpSize} {off : DWord} {kind : AccessKind}
    (h : Aligned s g a off 0 n) : s.checkAlignment g a off kind 0 [n] = .ok () :=
  checkAlignment_eq_ok.mpr fun j m hj => by
    cases j with
    | zero =>
      obtain rfl : n = m := Option.some.inj hj
      exact h
    | succ j => cases hj

theorem openNewSlots_of_opens {slots : List DWord} {addrs : List (List Nat)} (h : NewStackOpens s ss n slots addrs) :
    s.openNewSlots ss n slots = .ok addrs := by
  induction slots generalizing addrs with
  | nil =>
    obtain ⟨hlength, -⟩ := h
    rw [List.eq_nil_of_length_eq_zero hlength]
    rfl
  | cons off slots ih =>
    obtain ⟨hlength, hall⟩ := h
    obtain ⟨p, ps, rfl⟩ := List.exists_cons_of_length_eq_add_one hlength
    obtain ⟨aligned, l, hl, bytes, translates⟩ := hall 0 off rfl
    obtain rfl : p = l := Option.some.inj hl
    have first : s.translateAll .write (ss.linears ss.stackSize off n) = .ok p := by
      rw [translateAll_eq_ok, linears_length, forall_linears]
      exact ⟨bytes, translates⟩
    have others : s.openNewSlots ss n slots = .ok ps :=
      ih ⟨Nat.succ.inj hlength, fun k off' hk => hall (k + 1) off' hk⟩
    have passed : s.checkAlignment ss ss.stackSize off .write 0 [n] = .ok () := checkAlignment_single aligned
    rw [State.openNewSlots, passed, ok_bind, first, ok_bind, others]
    rfl

end

/-! ### The parameters (44_call.md R264) -/

theorem chunks_eq_map (n count : Nat) (l : List Nat) :
    chunks n count l = (List.range count).map fun k => (l.drop (k * n)).take n := by
  induction count generalizing l with
  | zero => rfl
  | succ count ih =>
    simp only [chunks, ih, List.drop_drop, List.range_succ_eq_map, List.map_cons, List.map_map, Function.comp_def,
      Nat.succ_eq_add_one, Nat.zero_mul, List.drop_zero, Nat.succ_mul, Nat.add_comm n]

theorem map_range_eq_iff {α : Type} {n : Nat} {f : Nat → α} {l : List α} :
    (List.range n).map f = l ↔ l.length = n ∧ ∀ k < n, l[k]? = some (f k) := by
  constructor
  · rintro rfl
    exact ⟨by simp, fun k hk => by simp [hk]⟩
  · rintro ⟨rfl, h⟩
    apply List.ext_getElem?
    intro k
    by_cases hk : k < l.length
    · rw [h k hk, List.getElem?_map, List.getElem?_range hk]
      rfl
    · simp [hk]

/-- A load of no more bytes than an item has is the item, with zeros above. -/
theorem load_eq_setWidth (s : State) (g : OpSize) {l : List Nat} (h : l.length ≤ g.bytes) :
    s.load 32 l = (s.load (8 * g.bytes) l).setWidth 32 := by
  have small : leNat (l.map fun a => Memory.read s.mem a) < 2 ^ (8 * g.bytes) := by
    refine Nat.lt_of_lt_of_le (leNat_lt _) ?_
    rw [two_pow_eq rfl, List.length_map]
    exact Nat.pow_le_pow_right (by decide) h
  apply BitVec.eq_of_toNat_eq
  rw [BitVec.toNat_setWidth, State.load, State.load, BitVec.toNat_ofNat, BitVec.toNat_ofNat, Nat.mod_eq_of_lt small]

/-- The parameters of a stack switch are one access to the old stack, cut into items. -/
theorem readParameters_eq_ok {s : State} {g : OpSize} {count : Nat} {params : List DWord} :
    s.readParameters g count = .ok params ↔ params.length = count ∧
      (0 < count → ∃ from_, s.segAccess .ss s.stackSize (stackTop s) (List.replicate count g.bytes) .read = .ok from_ ∧
        ∀ k < count, params[k]? =
          some ((s.load (8 * g.bytes) ((from_.drop (k * g.bytes)).take g.bytes)).setWidth 32)) := by
  cases count with
  | zero =>
    refine ⟨fun h => ?_, fun ⟨length, _⟩ => ?_⟩
    · obtain rfl : [] = params := Except.ok.inj h
      exact ⟨rfl, fun h => absurd h (Nat.lt_irrefl 0)⟩
    · rw [List.eq_nil_of_length_eq_zero length]
      rfl
  | succ c =>
    have item (from_ : List Nat) (k : Nat) : s.load 32 ((from_.drop (k * g.bytes)).take g.bytes) =
        (s.load (8 * g.bytes) ((from_.drop (k * g.bytes)).take g.bytes)).setWidth 32 :=
      load_eq_setWidth s g (List.length_take_le ..)
    simp only [State.readParameters, ← stackTop_eq_sp, bind_eq_ok, pure_eq, Except.ok.injEq, chunks_eq_map,
      List.map_map, map_range_eq_iff, Function.comp_apply, item, Nat.succ_pos, forall_true_left]
    exact ⟨fun ⟨from_, opened, length, items⟩ => ⟨length, from_, opened, items⟩,
      fun ⟨length, from_, opened, items⟩ => ⟨from_, opened, length, items⟩⟩

/-! ### Stores of the pushes -/

theorem storeSlots_eq_foldl (s : State) (ps : List (List Nat)) (vs : List DWord) :
    s.storeSlots ps vs = (ps.zip vs).foldl (fun u push => u.store push.1 push.2) s := by
  induction ps generalizing s vs with
  | nil => rfl
  | cons p ps ih =>
    cases vs with
    | nil => rfl
    | cons v vs => exact ih _ _

/-! ### Calls to more privilege (44_call.md R264) -/

/-- The state after a stack switch: the pushes on the new stack, and the registers loaded. -/
def State.stackSwitched (s : State) (g : OpSize) (gate c : QWord) (stack : NewStack) (ss : Segment)
    (params : List DWord) (addrs : List (List Nat)) : State :=
  (((s.storeSlots addrs (s.switchValues params)).switched ss
    (Segment.ofDescriptor (withRpl (gateSelector gate) (descDpl c)) c)
    (newEsp ss stack.esp ((newSlots ss stack.esp g.bytes (gateParameters gate + 4)).getLastD stack.esp))
    (gateTargetOffset g gate) (descDpl c))).drew 2

section
variable {s : State} {g : OpSize} {gate c : QWord} {stack : NewStack} {ss : Segment}
  (hstack : s.readTssStack (c.extractLsb' 45 2) = .ok stack)
  (hss : s.openNewStack (c.extractLsb' 45 2) stack.sel = .ok ss)
include hstack hss

/-- A call to more privilege whose stack segment passes. -/
theorem morePrivilege_of_stack : morePrivilege g gate (gateSelector gate) c s = (do
    stopIf (!ss.hasRoom g.bytes (newSlots ss stack.esp g.bytes (gateParameters gate + 4))) (s.raiseSel .ss stack.sel)
    stopIf (decide ((descLimit c).toNat < (gateTargetOffset g gate).toNat)) s.gp0
    let params ← s.readParameters g (gateParameters gate)
    let addrs ← s.openNewSlots ss g.bytes (newSlots ss stack.esp g.bytes (gateParameters gate + 4))
    return s.stackSwitched g gate c stack ss params addrs) := by
  rw [morePrivilege, descDpl, hstack, ok_bind, hss, ok_bind]
  simp only [State.stackSwitched, ← pushSlots_eq_newSlots, ← gateOffset_eq]
  rfl

theorem morePrivilege_of_noRoom
    (h : ¬∀ x ∈ newSlots ss stack.esp g.bytes (gateParameters gate + 4), Within ss x g.bytes) :
    morePrivilege g gate (gateSelector gate) c s = .error (s.raiseSel .ss stack.sel) := by
  have full : ss.hasRoom g.bytes (newSlots ss stack.esp g.bytes (gateParameters gate + 4)) = false := by
    rwa [← Bool.not_eq_true, hasRoom_iff (OpSize.bytes_pos g)]
  rw [morePrivilege_of_stack hstack hss, full]
  rfl

variable (hroom : ∀ x ∈ newSlots ss stack.esp g.bytes (gateParameters gate + 4), Within ss x g.bytes)
include hroom

theorem morePrivilege_beyond (h : limitOf c < (gateTargetOffset g gate).toNat) :
    morePrivilege g gate (gateSelector gate) c s = .error s.gp0 := by
  rw [← descLimit_toNat] at h
  rw [morePrivilege_of_stack hstack hss, (hasRoom_iff (OpSize.bytes_pos g) _).mpr hroom, decide_eq_true h]
  rfl

variable (hlimit : (gateTargetOffset g gate).toNat ≤ limitOf c)
include hlimit

/-- A call to more privilege whose stack and target pass is decided by the parameters, then by the pushes. -/
theorem morePrivilege_of_room : morePrivilege g gate (gateSelector gate) c s = (do
    let params ← s.readParameters g (gateParameters gate)
    let addrs ← s.openNewSlots ss g.bytes (newSlots ss stack.esp g.bytes (gateParameters gate + 4))
    return s.stackSwitched g gate c stack ss params addrs) := by
  rw [← descLimit_toNat] at hlimit
  rw [morePrivilege_of_stack hstack hss, (hasRoom_iff (OpSize.bytes_pos g) _).mpr hroom,
    decide_eq_false (Nat.not_lt.mpr hlimit)]
  rfl

theorem morePrivilege_of_unread {f : Fault} (hf : s.readParameters g (gateParameters gate) = .error (.fault f)) :
    morePrivilege g gate (gateSelector gate) c s = .error (.fault f) := by
  rw [morePrivilege_of_room hstack hss hroom hlimit, hf]
  rfl

theorem morePrivilege_completes {params : List DWord} {addrs : List (List Nat)}
    (hparams : s.readParameters g (gateParameters gate) = .ok params)
    (hopen : NewStackOpens s ss g.bytes (newSlots ss stack.esp g.bytes (gateParameters gate + 4)) addrs) :
    morePrivilege g gate (gateSelector gate) c s = .ok (s.stackSwitched g gate c stack ss params addrs) := by
  rw [morePrivilege_of_room hstack hss hroom hlimit, hparams, ok_bind, openNewSlots_of_opens hopen]
  rfl

end

section
variable (s : State) (g : OpSize) (gate c : QWord) (stack : NewStack) (ss : Segment) (params : List DWord)
  (addrs : List (List Nat))

/-- Everything that a stack switch changes. -/
theorem stackSwitched_eq : s.stackSwitched g gate c stack ss params addrs =
    { s with
      regs := (s.stackSwitched g gate c stack ss params addrs).regs, pc := gateTargetOffset g gate, cpl := descDpl c,
      mem := (s.storeSlots addrs (s.switchValues params)).mem,
      stored := (s.storeSlots addrs (s.switchValues params)).stored, draws := s.draws + 2,
      segs := { s.segs with ss := ss, cs := (s.stackSwitched g gate c stack ss params addrs).segs.cs } } := by
  unfold State.stackSwitched
  rw [State.storeSlots_eq]
  rfl

theorem stackSwitched_regs : (s.stackSwitched g gate c stack ss params addrs).regs = s.regs.set .esp
    (newEsp ss stack.esp ((newSlots ss stack.esp g.bytes (gateParameters gate + 4)).getLastD stack.esp)) := by
  unfold State.stackSwitched
  rw [State.storeSlots_eq]
  rfl

/-- ESP after a stack switch: the offset of the last push, in SP alone where B of the new SS is 0. -/
theorem stackSwitched_esp : ∃ last,
    (newSlots ss stack.esp g.bytes (gateParameters gate + 4)).getLast? = some last ∧
    (s.stackSwitched g gate c stack ss params addrs).reg32 .esp =
      if ss.big = true then last else stack.esp.extractLsb' 16 16 ++ last.extractLsb' 0 16 := by
  have filled : newSlots ss stack.esp g.bytes (gateParameters gate + 4) ≠ [] := by
    simp [newSlots]
  refine ⟨_, List.getLast?_eq_some_getLast filled, ?_⟩
  rw [State.reg32, stackSwitched_regs, RegFile.get_set_same, List.getLastD_eq_getLast?,
    List.getLast?_eq_some_getLast filled, Option.getD_some, newEsp, Segment.stackSize]
  cases ss.big <;> rfl

end

end Sys2Proof.Machine

section

open Sys2Proof Sys2Proof.Machine Sys2Proof.Claims

/-- Settles O46: every check passes, and the state is the one with the pushes stored and the registers loaded. -/
theorem callGateToMorePrivilege : Obligations.CallGateToMorePrivilege := by
  refine ⟨?_, fun s g count params => readParameters_eq_ok⟩
  intro s g i gate c stack ss params addrs reaches csel level notNull inTable read hs hc hconforming hpr hl hstack hss
    slots hroom hlimit hparams hopen
  have code : c.getLsbD 44 = true ∧ c.getLsbD 43 = true ∧ (c.extractLsb' 45 2).toNat ≤ s.cpl.toNat :=
    ⟨hs, hc, Nat.le_of_lt hl⟩
  have run : exec i s = .next (s.stackSwitched g gate c stack ss params addrs) := by
    rw [exec_of_callGate (g := g) (by cases g <;> decide) reaches,
      gateTarget_inner ⟨notNull, inTable, read⟩ code hpr hconforming hl,
      morePrivilege_completes hstack hss hroom hlimit hparams hopen]
    rfl
  obtain ⟨hcount, -⟩ := readParameters_eq_ok.mp hparams
  obtain ⟨hlength, -⟩ := hopen
  have pushes : addrs.length = (s.switchValues params).length := by
    rw [hlength]
    simp [newSlots, State.switchValues, hcount, slots]
  have frame := stackSwitched_eq s g gate c stack ss params addrs
  refine ⟨_, run, rfl, describes_ofDescriptor _ c, stackSwitched_esp .., othersKept_set rfl (stackSwitched_regs ..),
    ?_, ⟨s.fresh.extractLsb' 0 16, (s.drew 1).fresh.extractLsb' 0 16, ?_⟩, fun a ha => ?_, fun a => ?_⟩
  · exact frame
  · show (s.storeSlots addrs (s.switchValues params)).mem = _
    rw [storeSlots_eq_foldl]
    rfl
  · exact State.storeSlots_read_other s addrs _ a ha
  · exact State.storeSlots_stored s addrs _ pushes a

end

namespace Sys2Proof.Machine

open Sys2Proof.Claims

/-! ### The stack that the TSS holds (44_call.md R264) -/

section
variable {s : State} {level : BitVec 2} {sel : Word}

theorem readTssStack_short
    (h : s.tr.limit.toNat < if s.tr.is32 then level.toNat * 8 + 11 else level.toNat * 4 + 6) :
    s.readTssStack level = .error (s.raiseSel .ts s.tr.selector) := by
  unfold State.readTssStack
  cases format : s.tr.is32 with
  | true =>
    have short : s.tr.limit.toNat < level.toNat * 8 + 4 + 7 := by simpa [format] using h
    simp only [decide_eq_true short]
    rfl
  | false =>
    have short : s.tr.limit.toNat < level.toNat * 4 + 2 + 4 := by simpa [format] using h
    simp only [decide_eq_true short]
    rfl

theorem readTssStack_32 {esp : DWord} (format : s.tr.is32 = true) (h : level.toNat * 8 + 11 ≤ s.tr.limit.toNat)
    (hesp : s.systemRead 32 (s.tr.base + BitVec.ofNat 32 (level.toNat * 8 + 4)) 4 = .ok esp)
    (hsel : s.systemRead 16 (s.tr.base + BitVec.ofNat 32 (level.toNat * 8 + 8)) 2 = .ok sel) :
    s.readTssStack level = .ok { sel := sel, esp := esp } := by
  have long : ¬s.tr.limit.toNat < level.toNat * 8 + 4 + 7 := Nat.not_lt.mpr h
  simp only [State.readTssStack, format, decide_eq_false long, hesp, hsel]
  rfl

theorem readTssStack_16 {sp : Word} (format : s.tr.is32 = false) (h : level.toNat * 4 + 6 ≤ s.tr.limit.toNat)
    (hsp : s.systemRead 16 (s.tr.base + BitVec.ofNat 32 (level.toNat * 4 + 2)) 2 = .ok sp)
    (hsel : s.systemRead 16 (s.tr.base + BitVec.ofNat 32 (level.toNat * 4 + 4)) 2 = .ok sel) :
    s.readTssStack level = .ok { sel := sel, esp := sp.setWidth 32 } := by
  have long : ¬s.tr.limit.toNat < level.toNat * 4 + 2 + 4 := Nat.not_lt.mpr h
  simp only [State.readTssStack, format, decide_eq_false long, hsp, hsel]
  rfl

theorem openNewStack_refused (h : sel.extractLsb' 2 14 = 0 ∨ s.inTable sel = false) :
    s.openNewStack level sel = .error (s.raiseSel .ts sel) := by
  unfold State.openNewStack
  cases null : nullSelector sel with
  | true => rfl
  | false =>
    rw [h.resolve_left (nullSelector_eq_false.mp null)]
    rfl

/-- A descriptor of a writable data segment of a level, which the selector asks for as its RPL. -/
def FitsStack (level : BitVec 2) (sel : Word) (d : QWord) : Prop :=
  sel.extractLsb' 0 2 = level ∧ d.extractLsb' 45 2 = level ∧ d.getLsbD 44 = true ∧ d.getLsbD 43 = false ∧
    d.getLsbD 41 = true

variable {d : QWord}

theorem unfit_eq_false :
    (rpl sel != level || descDpl d != level || !(descKind d == .data && d.getLsbD 41)) = false ↔
      FitsStack level sel d := by
  rw [Bool.or_eq_false_iff, Bool.or_eq_false_iff, bne_eq_false_iff_eq, bne_eq_false_iff_eq, Bool.not_eq_false',
    Bool.and_eq_true, beq_iff_eq, descKind_eq_data, and_assoc, and_assoc]
  rfl

variable (names : Names s sel d)
include names

theorem openNewStack_of_names : s.openNewStack level sel = (do
    stopIf (rpl sel != level || descDpl d != level || !(descKind d == .data && d.getLsbD 41)) (s.raiseSel .ts sel)
    stopIf (!descPresent d) (s.raiseSel .ss sel)
    return Segment.ofDescriptor sel d) := by
  rw [State.openNewStack, nullSelector_eq_false.mpr names.notNull, names.inTable, names.read]
  rfl

theorem openNewStack_unfit (h : ¬FitsStack level sel d) :
    s.openNewStack level sel = .error (s.raiseSel .ts sel) := by
  rw [← unfit_eq_false, Bool.not_eq_false] at h
  rw [openNewStack_of_names names, h]
  rfl

variable (h : FitsStack level sel d)
include h

theorem openNewStack_notPresent (hpr : d.getLsbD 47 = false) :
    s.openNewStack level sel = .error (s.raiseSel .ss sel) := by
  rw [openNewStack_of_names names, unfit_eq_false.mpr h, descPresent, hpr]
  rfl

theorem openNewStack_fits (hpr : d.getLsbD 47 = true) :
    s.openNewStack level sel = .ok (Segment.ofDescriptor sel d) := by
  rw [openNewStack_of_names names, unfit_eq_false.mpr h, descPresent, hpr]
  rfl

end

section
variable {s : State} {g : OpSize} {gate c : QWord} {csel : Word} {e : Stop}

theorem morePrivilege_of_noStack (h : s.readTssStack (c.extractLsb' 45 2) = .error e) :
    morePrivilege g gate csel c s = .error e := by
  rw [morePrivilege, descDpl, h]
  rfl

theorem morePrivilege_of_noSegment {stack : NewStack} (hstack : s.readTssStack (c.extractLsb' 45 2) = .ok stack)
    (h : s.openNewStack (c.extractLsb' 45 2) stack.sel = .error e) : morePrivilege g gate csel c s = .error e := by
  rw [morePrivilege, descDpl, hstack, ok_bind, h]
  rfl

end

/-- A descriptor leaves only the selector of its segment open. -/
theorem eq_ofDescriptor_of_describes {d : QWord} {ss : Segment} (h : Describes d ss) :
    ss = Segment.ofDescriptor ss.selector d := by
  obtain ⟨base, limit, present, dpl, big, executable, code, data⟩ := h
  have sameLimit : ss.limit = descLimit d := BitVec.eq_of_toNat_eq (limit.trans (descLimit_toNat d).symm)
  obtain ⟨selector, _, _, _, writable, readable, _, expandDown, _, _, conforming⟩ := ss
  simp only at base sameLimit present dpl big executable code data
  subst base sameLimit present dpl big executable
  simp only [Segment.ofDescriptor, Segment.mk.injEq, true_and]
  cases hc : d.getLsbD 43 with
  | true =>
    obtain ⟨rfl, rfl, rfl, rfl⟩ := code hc
    exact ⟨rfl, rfl, rfl, rfl, rfl, rfl, rfl⟩
  | false =>
    obtain ⟨rfl, rfl, rfl, rfl⟩ := data hc
    exact ⟨rfl, rfl, rfl, rfl, rfl, rfl, rfl⟩

end Sys2Proof.Machine

section

open Sys2Proof Sys2Proof.Machine Sys2Proof.Claims

/-- Settles O50: the first check that fails decides, of the target, then of the stack. -/
theorem callGateChecksTargetAndStack : Obligations.CallGateChecksTargetAndStack := by
  refine ⟨fun s g gate i reaches => ?_, fun s level sel =>
    ⟨fun esp => readTssStack_32, fun sp => readTssStack_16, fun d notNull inTable read hrpl hdpl hs hc hw hpr =>
      ⟨_, openNewStack_fits ⟨notNull, inTable, read⟩ ⟨hrpl, hdpl, hs, hc, hw⟩ hpr, rfl, describes_ofDescriptor sel d⟩⟩⟩
  intro csel beyond
  have hp := protectedMode_of_reachesGate reaches
  have run : exec i s = toOutcome (gateTarget g gate s) :=
    exec_of_callGate (g := g) (by cases g <;> decide) reaches
  have raises {e : Exception} {sel : Word} (h : gateTarget g gate s = .error (s.raiseSel e sel)) :
      exec i s = selectorFault s e sel := by
    rw [run, h, outcome_raiseSel hp]
  have faults {f : Fault} (h : gateTarget g gate s = .error (.fault f)) : exec i s = .fault f := by
    rw [run, h]
    rfl
  refine ⟨fun null => raises (gateTarget_of_null null),
    fun notNull outside => raises (gateTarget_outside notNull outside), fun c notNull inTable read => ?_⟩
  intro level code inner
  have names : Names s (gateSelector gate) c := ⟨notNull, inTable, read⟩
  refine ⟨fun h => raises (gateTarget_of_not_code names h), fun h hpr => raises (gateTarget_of_notPresent names h hpr),
    fun h hpr same hroom => raises ?_, fun h hpr same hroom hbeyond => raises ?_,
    fun h hpr same hroom hwithin f hf => faults ?_, fun h hpr ⟨nonconforming, hl⟩ => ?_⟩
  · rw [gateTarget_same names h hpr same, callSegment_of_noRoom hroom]
    rfl
  · rw [gateTarget_same names h hpr same, callSegment_beyond hroom hbeyond]
    rfl
  · rw [gateTarget_same names h hpr same, callSegment_of_fault hroom (Nat.not_lt.mp hwithin) hf]
  have enters : gateTarget g gate s = morePrivilege g gate (gateSelector gate) c s :=
    gateTarget_inner names h hpr nonconforming hl
  refine ⟨fun short => raises (enters.trans (morePrivilege_of_noStack (readTssStack_short short))), fun stack hstack =>
    ⟨fun refused => raises (enters.trans (morePrivilege_of_noSegment hstack (openNewStack_refused refused))),
      fun d dNotNull dInTable dRead => ?_⟩⟩
  intro fits
  have dNames : Names s stack.sel d := ⟨dNotNull, dInTable, dRead⟩
  refine ⟨fun unfit => raises (enters.trans (morePrivilege_of_noSegment hstack (openNewStack_unfit dNames unfit))),
    fun fit dAbsent =>
      raises (enters.trans (morePrivilege_of_noSegment hstack (openNewStack_notPresent dNames fit dAbsent))),
    fun ss describes => ?_⟩
  rw [eq_ofDescriptor_of_describes describes]
  intro room
  refine ⟨fun fit dPresent noRoom => raises ?_, fun fit dPresent hroom hbeyond => raises ?_,
    fun fit dPresent hroom hwithin f hf => faults ?_⟩
  · rw [enters, morePrivilege_of_noRoom hstack (openNewStack_fits dNames fit dPresent) noRoom]
  · rw [enters, morePrivilege_beyond hstack (openNewStack_fits dNames fit dPresent) hroom hbeyond]
    rfl
  · rw [enters, morePrivilege_of_unread hstack (openNewStack_fits dNames fit dPresent) hroom (Nat.not_lt.mp hwithin) hf]

end

/-! ### The taken-branch trap (44_call.md R268; 60_exceptions.md R359)

Only `finishCall` ends in the trap, and every check in front of it is one that no trap ends. -/

namespace Sys2Proof.Machine

open Sys2Proof.Claims

/-- The taken-branch trap is on. -/
def BranchTrapOn (s : State) : Prop := s.itaniumSE = true ∧ s.psr.tb = true

/-- An outcome that is the taken-branch trap only where `P` holds; of one that never is, this is so for every `P`. -/
def TrapsOnlyIf (P : Prop) (o : Host.Outcome State Fault Refusal) : Prop := ∀ t, o = .fault (.debugTrap t) → P

section
variable {P Q : Prop}

theorem TrapsOnlyIf.imp {o : Host.Outcome State Fault Refusal} (h : TrapsOnlyIf P o) (hPQ : P → Q) : TrapsOnlyIf Q o :=
  fun t ht => hPQ (h t ht)

theorem trapsOnlyIf_next (t : State) : TrapsOnlyIf P (.next t) := by
  intro u hu
  cases hu

theorem TrapsOnlyIf.of_leads {o : Host.Outcome State Fault Refusal} (h : Leads o fun _ => P) : TrapsOnlyIf P o :=
  fun t ht => h t (.inr (.inl ht))

theorem TrapsOnlyIf.of_trapFree {r : Result State} (h : TrapFree r) : TrapsOnlyIf P (toOutcome r) := by
  intro t ht
  have notTrap : (Stop.fault (.debugTrap t)).isTrap = false := h _ (toOutcome_eq_fault.mp ht)
  cases notTrap

/-- After a part that no trap ends, the rest decides. -/
theorem TrapsOnlyIf.bind {α : Type} {x : Result α} {f : α → Result State} (hx : TrapFree x)
    (hf : ∀ a, x = .ok a → TrapsOnlyIf P (toOutcome (f a))) : TrapsOnlyIf P (toOutcome (x >>= f)) := by
  cases x with
  | ok a => exact hf a rfl
  | error e => exact .of_trapFree ((trapFree_error e).mpr (hx e rfl))

theorem TrapsOnlyIf.check {c : Bool} {e : Stop} {f : Unit → Result State} (he : e.isTrap = false)
    (hf : TrapsOnlyIf P (toOutcome (f ()))) : TrapsOnlyIf P (toOutcome (stopIf c e >>= f)) :=
  .bind (trapFree_stopIf c he) fun _ _ => hf

/-! #### Meanings without the trap -/

variable (s : State)

theorem alu_untrapped (op : AluOp) (lock : Bool) {w : Nat} (dst : Place w) (src : Operand w) :
    TrapsOnlyIf P (alu op lock dst src s) :=
  .bind (trapFree_checkNat s _) fun _ _ => .bind (trapFree_checkLockPlace s _ _ _) fun _ _ =>
    .bind (trapFree_openPlace s _ _) fun _ _ => .bind (trapFree_readOperand s _) fun _ _ => trapsOnlyIf_next _

theorem cmp_untrapped {w : Nat} (dst : Place w) (src : Operand w) : TrapsOnlyIf P (cmp dst src s) :=
  .bind (trapFree_checkNat s _) fun _ _ => .bind (trapFree_readOperand s _) fun _ _ =>
    .bind (trapFree_readOperand s _) fun _ _ => trapsOnlyIf_next _

theorem dec_untrapped (lock : Bool) {w : Nat} (dst : Place w) : TrapsOnlyIf P (dec lock dst s) :=
  .bind (trapFree_checkNat s _) fun _ _ => .bind (trapFree_checkLockPlace s _ _ _) fun _ _ =>
    .bind (trapFree_openPlace s _ _) fun _ _ => trapsOnlyIf_next _

theorem div_untrapped {w : Nat} (regs : List Reg) (dividend : State → Nat) (put : BitVec w → BitVec w → State → State)
    (src : Place w) : TrapsOnlyIf P (div regs dividend put src s) :=
  .bind (trapFree_checkNat s _) fun _ _ => .bind (trapFree_readOperand s _) fun _ _ =>
    .check rfl (.check rfl (trapsOnlyIf_next _))

theorem bitScan_untrapped {w : Nat} (search : BitVec w → Option Nat) (dst src : Place w) :
    TrapsOnlyIf P (bitScan search dst src s) :=
  .bind (trapFree_checkNat s _) fun _ _ => .bind (trapFree_readOperand s _) fun _ _ => trapsOnlyIf_next _

theorem bitTest_untrapped (op : BitOp) (lock : Bool) {w : Nat} (base : Place w) (off : Operand w) :
    TrapsOnlyIf P (bitTest op lock base off s) :=
  .bind (trapFree_checkNat s _) fun _ _ => .bind (trapFree_openBit s _ _ _ _) fun _ _ => trapsOnlyIf_next _

theorem execBswap_untrapped (size : OpSize) (r : Reg) : TrapsOnlyIf P (execBswap size r s) :=
  .bind (trapFree_checkNat s _) fun _ _ => by
    cases size <;> exact trapsOnlyIf_next _

theorem cmov_untrapped (c : Cond) {w : Nat} (dst src : Place w) : TrapsOnlyIf P (cmov c dst src s) :=
  .bind (trapFree_checkNat s _) fun _ _ => by
    cases condition c s.status with
    | true => exact .bind (trapFree_readOperand s _) fun _ _ => trapsOnlyIf_next _
    | false => exact .bind (trapFree_cmovFalse s src) fun _ _ => trapsOnlyIf_next _

theorem cmpxchg_untrapped (lock : Bool) {w : Nat} (acc dst src : Place w) :
    TrapsOnlyIf P (cmpxchg lock acc dst src s) :=
  .bind (trapFree_checkNat s _) fun _ _ => .bind (trapFree_checkLockPlace s _ _ _) fun _ _ =>
    .bind (trapFree_openPlace s _ _) fun _ _ => trapsOnlyIf_next _

theorem execCmpxchg8b_untrapped (lock : Bool) (m : MemOp) : TrapsOnlyIf P (execCmpxchg8b lock m s) :=
  .bind (trapFree_checkNat s _) fun _ _ => .bind (trapFree_checkLock s _ _ _ _ _) fun _ _ =>
    .bind (trapFree_memAccess s _ _ _) fun _ _ => trapsOnlyIf_next _

theorem execArpl_untrapped (rm : RM) (r : Reg) : TrapsOnlyIf P (execArpl rm r s) :=
  .check rfl <| .bind (trapFree_checkNat s _) fun _ _ => .bind (trapFree_openPlace s _ _) fun _ _ => trapsOnlyIf_next _

theorem bound_untrapped {w : Nat} (index : Place w) (m : MemOp) : TrapsOnlyIf P (bound index m s) :=
  .bind (trapFree_checkNat s _) fun _ _ => .bind (trapFree_memAccess s _ _ _) fun _ _ =>
    .check rfl (trapsOnlyIf_next _)

theorem cmps_untrapped (w : Nat) (a : OpSize) (seg : SegReg) : TrapsOnlyIf P (cmps w a seg s) :=
  .bind (trapFree_checkNat s _) fun _ _ => .bind (trapFree_segAccess s _ _ _ _ _) fun _ _ =>
    .bind (trapFree_segAccess s _ _ _ _ _) fun _ _ => trapsOnlyIf_next _

/-- An instruction that checks its registers' NaT bits and then always completes. -/
theorem checkNat_untrapped (rs : List Reg) (t : State) : TrapsOnlyIf P (toOutcome do s.checkNat rs; return t) :=
  .bind (trapFree_checkNat s _) fun _ _ => trapsOnlyIf_next _

theorem execAam_untrapped (imm : Byte) : TrapsOnlyIf P (execAam imm s) :=
  .bind (trapFree_checkNat s _) fun _ _ => .check rfl (trapsOnlyIf_next _)

/-- The trap that CLI ends in is another one. -/
theorem cliFinish_untrapped (old : Bool) (u : State) : TrapsOnlyIf P (toOutcome (cliFinish old u)) := by
  unfold cliFinish
  split
  · intro t ht
    cases ht
  · exact trapsOnlyIf_next u

theorem execCli_untrapped : TrapsOnlyIf P (execCli s) := by
  unfold execCli
  cases cliAction s with
  | clearIf | clearVif => exact cliFinish_untrapped _ _
  | protection => exact .of_trapFree ((trapFree_error _).mpr rfl)

theorem execClts_untrapped : TrapsOnlyIf P (execClts s) :=
  .check rfl (.check rfl (trapsOnlyIf_next _))

end

/-! #### CALL -/

section
variable (s : State)

theorem finishCall_trapsOnlyIf {u : State} (hcfg : u.cfg = s.cfg) (hpsr : u.psr = s.psr) :
    TrapsOnlyIf (BranchTrapOn s) (toOutcome (finishCall u)) := by
  intro t ht
  by_contra off
  rw [finishCall_of_noBranchTrap hcfg hpsr fun he => Bool.eq_false_of_not_eq_true fun htb => off ⟨he, htb⟩] at ht
  cases ht

theorem nearCall_trapsOnlyIf (n : OpSize) (target : DWord) :
    TrapsOnlyIf (BranchTrapOn s) (toOutcome (nearCall n target s)) :=
  .check rfl <| .check rfl <| .bind (trapFree_openSlots s _ _) fun _ _ =>
    finishCall_trapsOnlyIf s (by rw [State.pushed_eq]; rfl) (by rw [State.pushed_eq]; rfl)

theorem farReal_trapsOnlyIf (n : OpSize) (sel : Word) (off : DWord) :
    TrapsOnlyIf (BranchTrapOn s) (toOutcome (farReal n sel off s)) :=
  .check rfl <| .check rfl <| .bind (trapFree_openSlots s _ _) fun addrs _ =>
    finishCall_trapsOnlyIf s (u := s.farCalled n addrs (s.segs.cs.loadReal sel) (n.wrap off)) (by rw [farCalled_eq])
      (by rw [farCalled_eq])

theorem farCode_trapsOnlyIf (n : OpSize) (sel : Word) (off : DWord) (d : QWord) :
    TrapsOnlyIf (BranchTrapOn s) (toOutcome (farCode n sel off d s)) :=
  .check rfl <| .check rfl <| .bind (trapFree_callSegment s _ _ _ _) fun t h => by
    obtain ⟨-, -, addrs, -, rfl⟩ := callSegment_eq_ok.mp h
    exact finishCall_trapsOnlyIf s
      (u := s.farCalled n addrs (Segment.ofDescriptor (withRpl sel s.cpl) d) (n.wrap off)) (by rw [farCalled_eq])
      (by rw [farCalled_eq])

theorem trapFree_morePrivilege (g : OpSize) (gate : QWord) (csel : Word) (c : QWord) :
    TrapFree (morePrivilege g gate csel c s) :=
  .bind (trapFree_readTssStack s _) fun _ => .bind (trapFree_openNewStack s _ _) fun _ =>
    .bind (trapFree_stopIf _ rfl) fun _ => .bind (trapFree_stopIf _ rfl) fun _ =>
      .bind (trapFree_readParameters s _ _) fun _ => .bind (trapFree_openNewSlots s _ _ _) fun _ => trapFree_ok _

theorem trapFree_gateTarget (g : OpSize) (gate : QWord) : TrapFree (gateTarget g gate s) :=
  .bind (trapFree_stopIf _ rfl) fun _ => .bind (trapFree_stopIf _ rfl) fun _ =>
    .bind (trapFree_readDescriptor s _) fun c => .bind (trapFree_stopIf _ rfl) fun _ =>
      .bind (trapFree_stopIf _ rfl) fun _ => by
        cases !c.getLsbD 42 && decide ((descDpl c).toNat < s.cpl.toNat) with
        | true => exact trapFree_morePrivilege s g gate _ c
        | false => exact trapFree_callSegment s _ _ _ _

/-- A gate is called in the IA-32 System Environment alone, where no trap follows a call. -/
theorem trapFree_farCallGate (g : OpSize) (sel : Word) (gate : QWord) : TrapFree (farCallGate g sel gate s) :=
  .bind (trapFree_stopIf _ rfl) fun _ => .bind (trapFree_stopIf _ rfl) fun _ => .bind (trapFree_stopIf _ rfl)
    fun _ => trapFree_gateTarget s g gate

theorem farCall_trapsOnlyIf (n : OpSize) (sel : Word) (off : DWord) :
    TrapsOnlyIf (BranchTrapOn s) (toOutcome (farCall n sel off s)) := by
  unfold farCall
  cases s.protectedMode with
  | false => exact farReal_trapsOnlyIf s n sel off
  | true =>
    refine .check rfl <| .check rfl <| .bind (trapFree_readDescriptor s _) fun d _ => ?_
    cases descKind d with
    | code => exact farCode_trapsOnlyIf s n sel off d
    | callGate g => exact .of_trapFree (trapFree_farCallGate s g sel d)
    | taskGate => exact .of_leads (farTaskGate_leads s sel d _)
    | tss busy => exact .of_leads (farTss_leads s sel busy d _)
    | data | other => exact .of_trapFree ((trapFree_error _).mpr rfl)

/-- A near or far CALL whose operands are read (44_call.md R251, R252, R254, R255). -/
def IsCall (s : State) (i : Instr) : Prop :=
  (∃ n target regs, NearCall s n target regs i) ∨ ∃ n sel off regs, Claims.FarCall s n sel off regs i

section
variable {s}

theorem farCall_of_pointer16 {m : MemOp} {p : Word × DWord} (h : s.readFarPointer .s16 m = .ok p) :
    IsCall s (.callM16x16 m) := by
  obtain ⟨addrs, access, -⟩ := bind_eq_ok.mp h
  match addrs, State.segAccess_length access with
  | [o0, o1, s0, s1], _ => exact .inr ⟨_, _, _, _, .m16x16 m o0 o1 s0 s1 access⟩

theorem farCall_of_pointer32 {m : MemOp} {p : Word × DWord} (h : s.readFarPointer .s32 m = .ok p) :
    IsCall s (.callM16x32 m) := by
  obtain ⟨addrs, access, -⟩ := bind_eq_ok.mp h
  match addrs, State.segAccess_length access with
  | [o0, o1, o2, o3, s0, s1], _ => exact .inr ⟨_, _, _, _, .m16x32 m o0 o1 o2 o3 s0 s1 access⟩

end

/-- Every instruction, by the operation that gives it its meaning: only a CALL whose operands are read ends in the
taken-branch trap, and only where the trap is on. -/
theorem exec_trapsOnlyIf (i : Instr) : TrapsOnlyIf (BranchTrapOn s ∧ IsCall s i) (exec i s) := by
  cases i with
  | adcAlIb | adcAxIw | adcEaxId | adcRm8Ib | adcRm16Iw | adcRm32Id | adcRm16Ib | adcRm32Ib | adcRm8R8 |
    adcRm16R16 | adcRm32R32 | adcR8Rm8 | adcR16Rm16 | adcR32Rm32 | addAlIb | addAxIw | addEaxId | addRm8Ib |
    addRm16Iw | addRm32Id | addRm16Ib | addRm32Ib | addRm8R8 | addRm16R16 | addRm32R32 | addR8Rm8 | addR16Rm16 |
    addR32Rm32 | andAlIb | andAxIw | andEaxId | andRm8Ib | andRm16Iw | andRm32Id | andRm16Ib | andRm32Ib | andRm8R8
  | andRm16R16 | andRm32R32 | andR8Rm8 | andR16Rm16 | andR32Rm32 => exact alu_untrapped s _ _ _ _
  | cmpAlIb | cmpAxIw | cmpEaxId | cmpRm8Ib | cmpRm16Iw | cmpRm32Id | cmpRm16Ib | cmpRm32Ib | cmpRm8R8 |
    cmpRm16R16 | cmpRm32R32 | cmpR8Rm8 | cmpR16Rm16 | cmpR32Rm32 => exact cmp_untrapped s _ _
  | decRm8 | decRm16 | decRm32 | decR16 | decR32 => exact dec_untrapped s _ _
  | divRm8 | divRm16 | divRm32 => exact div_untrapped s _ _ _ _
  | cmovO16 | cmovO32 | cmovNo16 | cmovNo32 | cmovB16 | cmovB32 | cmovAe16 | cmovAe32 | cmovE16 | cmovE32 |
    cmovNe16 | cmovNe32 | cmovBe16 | cmovBe32 | cmovA16 | cmovA32 | cmovS16 | cmovS32 | cmovNs16 | cmovNs32 |
    cmovP16 | cmovP32 | cmovNp16 | cmovNp32 | cmovL16 | cmovL32 | cmovGe16 | cmovGe32 | cmovLe16 | cmovLe32 |
    cmovG16 | cmovG32 => exact cmov_untrapped s _ _ _
  | bsfR16Rm16 | bsfR32Rm32 | bsrR16Rm16 | bsrR32Rm32 => exact bitScan_untrapped s _ _ _
  | btRm16R16 | btRm32R32 | btRm16Ib | btRm32Ib | btcRm16R16 | btcRm32R32 | btcRm16Ib | btcRm32Ib | btrRm16R16 |
    btrRm32R32 | btrRm16Ib | btrRm32Ib | btsRm16R16 | btsRm32R32 | btsRm16Ib | btsRm32Ib =>
    exact bitTest_untrapped s _ _ _ _
  | cmpsb | cmpsw | cmpsd => exact cmps_untrapped s _ _ _
  | cmpxchgRm8R8 | cmpxchgRm16R16 | cmpxchgRm32R32 => exact cmpxchg_untrapped s _ _ _ _
  | boundR16 | boundR32 => exact bound_untrapped s _ _
  | aaa | aas | aad | daa | das | cbw | cwde | cwd | cdq | cpuid => exact checkNat_untrapped s _ _
  | clc | cmc | cld => exact trapsOnlyIf_next _
  | aam imm => exact execAam_untrapped s imm
  | arpl rm r => exact execArpl_untrapped s rm r
  | bswap size r => exact execBswap_untrapped s size r
  | cmpxchg8b lock m => exact execCmpxchg8b_untrapped s lock m
  | cli => exact execCli_untrapped s
  | clts => exact execClts_untrapped s
  | callRel16 rel =>
    exact .bind (trapFree_checkNat s _) fun _ _ =>
      (nearCall_trapsOnlyIf s _ _).imp fun on => ⟨on, .inl ⟨_, _, _, .rel16 rel⟩⟩
  | callRel32 rel =>
    exact .bind (trapFree_checkNat s _) fun _ _ =>
      (nearCall_trapsOnlyIf s _ _).imp fun on => ⟨on, .inl ⟨_, _, _, .rel32 rel⟩⟩
  | callRm16 rm =>
    refine .bind (trapFree_checkNat s _) fun _ _ => .bind (trapFree_readOperand s _) fun target read => ?_
    obtain ⟨from_, opened, -⟩ := State.readOperand_eq_ok.mp read
    exact (nearCall_trapsOnlyIf s _ _).imp fun on => ⟨on, .inl ⟨_, _, _, .rm16 rm from_ opened⟩⟩
  | callRm32 rm =>
    refine .bind (trapFree_checkNat s _) fun _ _ => .bind (trapFree_readOperand s _) fun target read => ?_
    obtain ⟨from_, opened, -⟩ := State.readOperand_eq_ok.mp read
    exact (nearCall_trapsOnlyIf s _ _).imp fun on => ⟨on, .inl ⟨_, _, _, .rm32 rm from_ opened⟩⟩
  | callPtr16 sel off =>
    exact .bind (trapFree_checkNat s _) fun _ _ =>
      (farCall_trapsOnlyIf s _ _ _).imp fun on => ⟨on, .inr ⟨_, _, _, _, .ptr16 sel off⟩⟩
  | callPtr32 sel off =>
    exact .bind (trapFree_checkNat s _) fun _ _ =>
      (farCall_trapsOnlyIf s _ _ _).imp fun on => ⟨on, .inr ⟨_, _, _, _, .ptr32 sel off⟩⟩
  | callM16x16 m =>
    exact .bind (trapFree_checkNat s _) fun _ _ => .bind (trapFree_readFarPointer s _ _) fun _ read =>
      (farCall_trapsOnlyIf s _ _ _).imp fun on => ⟨on, farCall_of_pointer16 read⟩
  | callM16x32 m =>
    exact .bind (trapFree_checkNat s _) fun _ _ => .bind (trapFree_readFarPointer s _ _) fun _ read =>
      (farCall_trapsOnlyIf s _ _ _).imp fun on => ⟨on, farCall_of_pointer32 read⟩

end

end Sys2Proof.Machine

section

open Sys2Proof Sys2Proof.Machine Sys2Proof.Claims

/-- Settles O51: only `finishCall` ends in the trap, and where the trap is on every completed call does. -/
theorem takenBranchTrapCarriesTheCall : Obligations.TakenBranchTrapCarriesTheCall := by
  refine ⟨fun s t i off run => ?_, fun s t i run => (exec_trapsOnlyIf s i t run).2, fun s he htb => ⟨?_, ?_, ?_⟩⟩
  · obtain ⟨⟨he, htb⟩, -⟩ := exec_trapsOnlyIf s i t run
    rcases off with ia32 | clear
    · exact Bool.false_ne_true (ia32.symm.trans he)
    · exact Bool.false_ne_true (clear.symm.trans htb)
  · intro n target regs i addrs form hr htarget hpush
    obtain ⟨t, run, kept, status, -, rest⟩ := nearCall_completes htarget hpush
    refine ⟨t, ?_, kept, status, rest⟩
    rw [exec_of_nearCall form hr, run]
    exact finishCall_of_branchTrap (by rw [kept]) (by rw [kept]) he htb
  · intro n sel off regs i cs ip form hp hr hroom h
    obtain ⟨t, run, pushed, frame⟩ := farReal_completes form hr hp hroom h
    refine ⟨t, ?_, pushed, by rw [frame], by rw [frame]⟩
    rw [run]
    exact finishCall_of_branchTrap (by rw [frame]) (by rw [frame]) he htb
  · intro n sel off regs i cs ip d form hp hr notNull inTable read hs hc ha hpr hroom h
    obtain ⟨t, run, pushed, frame, selector, -⟩ :=
      farCode_completes form hp hr ⟨notNull, inTable, read⟩ hs hc (deniedCode_eq_false.mpr ha) hpr hroom h
    refine ⟨t, ?_, pushed, by rw [frame], selector⟩
    rw [run]
    exact finishCall_of_branchTrap (by rw [frame]) (by rw [frame]) he htb

end

/-! ## Settling the statements about converts and flags (45_convert_and_flag_control.md)

A convert checks the NaT bit of EAX and then goes on to `State.wrote` with the status flags as they are. What CLI does
is its decision, `cliAction`, said once for each mode. -/

namespace Sys2Proof.Machine

open Sys2Proof.Claims

/-! ### CBW, CWDE, CWD and CDQ (45_convert_and_flag_control.md R280 to R283) -/

/-! #### The sign of AL, AX and EAX, as a bit of EAX -/

theorem msb_reg16 (s : State) (r : Reg) : (s.reg16 r).msb = (s.reg32 r).getLsbD 15 := by
  rw [BitVec.msb_eq_getLsbD_last]
  exact BitVec.getLsbD_extractLsb' ..

theorem msb_reg8_al (s : State) : (s.reg8 .al).msb = (s.reg32 .eax).getLsbD 7 := by
  rw [BitVec.msb_eq_getLsbD_last]
  exact BitVec.getLsbD_extractLsb' ..

theorem msb_eax (s : State) : (s.reg32 .eax).msb = (s.reg32 .eax).getLsbD 31 :=
  BitVec.msb_eq_getLsbD_last _

theorem signExtend_al (s : State) : (s.reg8 .al).signExtend 16 =
    (if (s.reg32 .eax).getLsbD 7 then (0xFF : Byte) else 0) ++ (s.reg32 .eax).extractLsb' 0 8 := by
  rw [BitVec.signExtend_eq_append_of_le (by decide), msb_reg8_al]
  rfl

theorem signExtend_ax (s : State) : (s.reg16 .eax).signExtend 32 =
    (if (s.reg32 .eax).getLsbD 15 then (0xFFFF : Word) else 0) ++ (s.reg32 .eax).extractLsb' 0 16 := by
  rw [BitVec.signExtend_eq_append_of_le (by decide), msb_reg16]
  rfl

/-! #### The states that the converts go on to -/

section
variable {s : State} (h : Readable s [.eax])
include h

theorem exec_cbw : exec .cbw s = .next (s.wrote (.r16 .eax) []
    ((if (s.reg32 .eax).getLsbD 7 then (0xFF : Byte) else 0) ++ (s.reg32 .eax).extractLsb' 0 8) s.status 0) := by
  rw [← signExtend_al]
  exact congrArg toOutcome (checkNat_bind_of_readable h _)

theorem exec_cwde : exec .cwde s = .next (s.wrote (.r32 .eax) []
    ((if (s.reg32 .eax).getLsbD 15 then (0xFFFF : Word) else 0) ++ (s.reg32 .eax).extractLsb' 0 16) s.status 0) := by
  rw [← signExtend_ax]
  exact congrArg toOutcome (checkNat_bind_of_readable h _)

theorem exec_cwd : exec .cwd s = .next (s.wrote (.r16 .edx) []
    (if (s.reg32 .eax).getLsbD 15 then 0xFFFF else 0) s.status 0) := by
  rw [← msb_reg16]
  exact congrArg toOutcome (checkNat_bind_of_readable h _)

theorem exec_cdq : exec .cdq s = .next (s.wrote (.r32 .edx) []
    (if (s.reg32 .eax).getLsbD 31 then 0xFFFFFFFF else 0) s.status 0) := by
  rw [← msb_eax]
  exact congrArg toOutcome (checkNat_bind_of_readable h _)

end

/-- An instruction that writes one operand outside memory and no flag. -/
theorem completes_of_wrote {s : State} {w : Nat} {p : Place w} {v : BitVec w} {i : Instr}
    (memory : MemoryKept s (s.wrote p [] v s.status 0)) (run : exec i s = .next (s.wrote p [] v s.status 0)) :
    ∃ t, exec i s = .next t ∧ Completed 0 s t ∧ MemoryKept s t ∧ t.status = s.status ∧ RegistersWritten p v s t := by
  obtain ⟨registers, -⟩ := written_wrote s p [] v s.status 0
  exact ⟨_, run, completed_wrote .., memory, wrote_status .., registers⟩

/-! ### The error code of `#GP(0)` (60_exceptions.md R353) -/

theorem gp0_of_not_real {s : State} (h : s.realMode = false) :
    s.gp0 = .fault (.exception .gp (some 0) s.pc none) := by
  rw [State.gp0, State.raiseCode, h]
  rfl

/-! ### CLI (45_convert_and_flag_control.md R290) -/

/-- Where CLI clears IF. -/
def State.ClearsIf (s : State) : Prop :=
  s.cr0.pe = false ∨ (s.protectedMode = true ∧ s.cpl.toNat ≤ s.flags.iopl.toNat) ∨
    (s.v86Mode = true ∧ s.flags.iopl = 3)

/-- Where CLI clears VIF. -/
def State.ClearsVif (s : State) : Prop :=
  (s.protectedMode = true ∧ s.flags.iopl.toNat < s.cpl.toNat ∧ s.cpl = 3 ∧ s.cr4.pvi = true) ∨
    (s.v86Mode = true ∧ s.flags.iopl ≠ 3 ∧ s.cr4.vme = true)

section
variable {s : State}

theorem protectedMode_iff : s.protectedMode = true ↔ s.cr0.pe = true ∧ s.flags.vm = false := by
  simp [State.protectedMode]

theorem v86Mode_iff : s.v86Mode = true ↔ s.cr0.pe = true ∧ s.flags.vm = true := by
  simp [State.v86Mode]

/-- Each state is in one of the three modes (10_state.md R65). -/
theorem mode_cases (s : State) : s.cr0.pe = false ∨ s.protectedMode = true ∨ s.v86Mode = true := by
  rw [protectedMode_iff, v86Mode_iff]
  cases s.cr0.pe <;> cases s.flags.vm <;> simp

theorem cliAction_of_real (h : s.cr0.pe = false) : cliAction s = .clearIf :=
  if_pos h

theorem cliAction_of_protected (h : s.protectedMode = true) : cliAction s =
    if s.flags.iopl.toNat < s.cpl.toNat then (if s.cpl = 3 ∧ s.cr4.pvi = true then .clearVif else .protection)
    else .clearIf := by
  obtain ⟨hpe, hvm⟩ := protectedMode_iff.mp h
  by_cases user : s.cpl = 3
  · cases hpvi : s.cr4.pvi <;> simp [cliAction, cliByLevel, hpe, hvm, hpvi, user]
  · simp only [cliAction, cliByLevel, hpe, hvm, user, Bool.true_eq_false, if_false, if_true, false_and, ite_self]

theorem cliAction_of_v86 (h : s.v86Mode = true) : cliAction s =
    if s.flags.iopl = 3 then .clearIf else if s.cr4.vme = true then .clearVif else .protection := by
  obtain ⟨hpe, hvm⟩ := v86Mode_iff.mp h
  cases hvme : s.cr4.vme <;> simp [cliAction, hpe, hvm, hvme]

theorem cliAction_of_clearsIf (h : s.ClearsIf) : cliAction s = .clearIf := by
  rcases h with real | ⟨prot, level⟩ | ⟨v86, iopl⟩
  · exact cliAction_of_real real
  · rw [cliAction_of_protected prot, if_neg (Nat.not_lt.mpr level)]
  · rw [cliAction_of_v86 v86, if_pos iopl]

theorem cliAction_of_clearsVif (h : s.ClearsVif) : cliAction s = .clearVif := by
  rcases h with ⟨prot, level, cpl, pvi⟩ | ⟨v86, iopl, vme⟩
  · rw [cliAction_of_protected prot, if_pos level, if_pos ⟨cpl, pvi⟩]
  · rw [cliAction_of_v86 v86, if_neg iopl, if_pos vme]

theorem cliAction_of_clearsNeither (notIf : ¬s.ClearsIf) (notVif : ¬s.ClearsVif) : cliAction s = .protection := by
  rcases mode_cases s with real | prot | v86
  · exact absurd (.inl real) notIf
  · have level : s.flags.iopl.toNat < s.cpl.toNat := Nat.not_le.mp fun le => notIf (.inr (.inl ⟨prot, le⟩))
    rw [cliAction_of_protected prot, if_pos level,
      if_neg fun ⟨cpl, pvi⟩ => notVif (.inl ⟨prot, level, cpl, pvi⟩)]
  · have iopl : s.flags.iopl ≠ 3 := fun three => notIf (.inr (.inr ⟨v86, three⟩))
    rw [cliAction_of_v86 v86, if_neg iopl, if_neg fun vme => notVif (.inr ⟨v86, iopl, vme⟩)]

theorem exec_cli (s : State) : exec .cli s = execCli s :=
  rfl

/-- Clearing IF changes it where it was set, which the intercept asks. -/
theorem exec_cli_of_clearsIf (h : s.ClearsIf) : exec .cli s =
    if s.itaniumSE = true ∧ s.cflg.ii = true ∧ s.flags.ifl = true
    then .fault (.systemFlagTrap { s with flags := { s.flags with ifl := false } }.advance)
    else .next { s with flags := { s.flags with ifl := false } }.advance := by
  have test : (s.itaniumSE && s.cflg.ii && false != s.flags.ifl) = true ↔
      s.itaniumSE = true ∧ s.cflg.ii = true ∧ s.flags.ifl = true := by
    simp [and_assoc]
  rw [exec_cli, execCli, cliAction_of_clearsIf h, ← if_congr test rfl rfl]
  exact apply_ite toOutcome _ _ _

/-- Clearing VIF leaves IF as it was, which no intercept follows. -/
theorem exec_cli_of_clearsVif (h : s.ClearsVif) :
    exec .cli s = .next { s with flags := { s.flags with vif := false } }.advance := by
  rw [exec_cli, execCli, cliAction_of_clearsVif h]
  simp [cliFinish]

theorem exec_cli_of_clearsNeither (notIf : ¬s.ClearsIf) (notVif : ¬s.ClearsVif) :
    exec .cli s = .fault (.exception .gp (some 0) s.pc none) := by
  have notReal : s.realMode = false := by
    rw [State.realMode, Bool.not_eq_false']
    exact eq_true_of_ne_false fun real => notIf (.inl real)
  rw [exec_cli, execCli, cliAction_of_clearsNeither notIf notVif]
  exact congrArg (toOutcome ∘ .error) (gp0_of_not_real notReal)

/-! ### CLTS (45_convert_and_flag_control.md R292) -/

theorem exec_clts (s : State) : exec .clts s = execClts s :=
  rfl

theorem exec_clts_of_itanium (he : s.itaniumSE = true) : exec .clts s = .fault (.intercept .instClts s.pc) := by
  simp [exec_clts, execClts, he, State.raiseIntercept]

theorem exec_clts_of_denied (he : s.itaniumSE = false) (hr : s.realMode = false) (hc : s.cpl ≠ 0) :
    exec .clts s = .fault (.exception .gp (some 0) s.pc none) := by
  have denied : (!s.realMode && s.cpl != 0) = true := by simpa [hr] using hc
  simp only [exec_clts, execClts, he, denied, gp0_of_not_real hr, stopIf_false, stopIf_true, ok_bind, error_bind,
    toOutcome_fault]

theorem exec_clts_of_allowed (he : s.itaniumSE = false) (h : s.realMode = true ∨ s.cpl = 0) :
    exec .clts s = .next { s with cr0 := { s.cr0 with ts := false } }.advance := by
  have allowed : (!s.realMode && s.cpl != 0) = false := by
    rcases h with real | level
    · simp [real]
    · simp [level]
  simp only [exec_clts, execClts, he, allowed, stopIf_false, ok_bind, pure_eq, toOutcome_ok]

end

end Sys2Proof.Machine

section

open Sys2Proof Sys2Proof.Machine Sys2Proof.Claims

/-- Settles O52: the value that each convert writes is the sign bit of EAX's part, copied. -/
theorem convertsCopyTheSign : Obligations.ConvertsCopyTheSign := by
  refine ⟨fun rest => ?decodes, fun s he hn i hi => ?aborts, fun s hr => ?completes⟩
  case decodes =>
    exact ⟨decode_encode (i := .cbw) rfl .s16 rest, decode_encode (i := .cbw) rfl .s32 rest,
      decode_encode (i := .cwde) rfl .s32 rest, decode_encode (i := .cwde) rfl .s16 rest,
      decode_encode (i := .cwd) rfl .s16 rest, decode_encode (i := .cwd) rfl .s32 rest,
      decode_encode (i := .cdq) rfl .s32 rest, decode_encode (i := .cdq) rfl .s16 rest⟩
  case aborts =>
    simp only [List.mem_cons, List.not_mem_nil, or_false] at hi
    rcases hi with rfl | rfl | rfl | rfl <;> exact checkNat_bind_of_nat (r := .eax) he (.head _) hn _
  case completes =>
    exact ⟨completes_of_wrote ⟨rfl, rfl⟩ (exec_cbw hr), completes_of_wrote ⟨rfl, rfl⟩ (exec_cwde hr),
      completes_of_wrote ⟨rfl, rfl⟩ (exec_cwd hr), completes_of_wrote ⟨rfl, rfl⟩ (exec_cdq hr)⟩

/-- Settles O54: where CLI clears IF only its intercept is left to decide, and elsewhere the mode decides. -/
theorem cliClearsTheInterruptFlag : Obligations.CliClearsTheInterruptFlag := by
  refine ⟨fun z rest => decode_encode (i := .cli) rfl z rest, fun s => ?_⟩
  refine ⟨fun h on => ?_, fun h off => ?_, exec_cli_of_clearsVif, exec_cli_of_clearsNeither⟩
  · exact (exec_cli_of_clearsIf h).trans (if_pos on)
  · exact (exec_cli_of_clearsIf h).trans (if_neg off)

/-- Settles O55: the intercept comes first, then the privilege test. -/
theorem cltsClearsTaskSwitched : Obligations.CltsClearsTaskSwitched :=
  ⟨fun z rest => decode_encode (i := .clts) rfl z rest,
    fun _ => ⟨exec_clts_of_itanium, exec_clts_of_denied, exec_clts_of_allowed⟩⟩

/-- Settles O53: none of the three makes a check. -/
theorem carryAndDirectionInstructions : Obligations.CarryAndDirectionInstructions :=
  fun z rest _ => ⟨decode_encode (i := .clc) rfl z rest, decode_encode (i := .cmc) rfl z rest,
    decode_encode (i := .cld) rfl z rest, rfl, rfl, rfl⟩

end

/-! ## Settling the statements about moves, string compares and exchanges (46_cmov_string_cmpxchg.md)

CMOVcc goes on to `State.wrote`, or to a state that the choice of the load leaves. CMPS steps its two indexes. CMPXCHG
and CMPXCHG8B write both the accumulator and the destination, whatever their comparison gives: one of the two writes
then puts back the value that stood there, which changes no register and no byte of memory. -/

namespace Sys2Proof.Machine

open Sys2Proof.Claims

/-! ### CMOVcc (46_cmov_string_cmpxchg.md R300, R301) -/

/-- A row of the table of CMOVcc: a condition with the word and the doubleword instruction that test it. -/
abbrev CmovRow : Type := (StatusFlags → Bool) × (Reg → RM → Instr) × (Reg → RM → Instr)

/-- The model's condition `c` is the row's, and CMOVcc with it is what the row's instructions do. -/
structure GivesRow (c : Cond) (row : CmovRow) : Prop where
  tests : condition c = row.1
  exec16 : ∀ r rm s, exec (row.2.1 r rm) s = cmov c (.r16 r) rm.place16 s
  exec32 : ∀ r rm s, exec (row.2.2 r rm) s = cmov c (.r32 r) rm.place32 s

theorem exists_givesRow : ∀ row ∈ cmovTable, ∃ c, GivesRow c row := by
  simp only [cmovTable, List.forall_mem_cons]
  exact ⟨⟨.o, rfl, fun _ _ _ => rfl, fun _ _ _ => rfl⟩, ⟨.no, rfl, fun _ _ _ => rfl, fun _ _ _ => rfl⟩,
    ⟨.b, rfl, fun _ _ _ => rfl, fun _ _ _ => rfl⟩, ⟨.ae, rfl, fun _ _ _ => rfl, fun _ _ _ => rfl⟩,
    ⟨.e, rfl, fun _ _ _ => rfl, fun _ _ _ => rfl⟩, ⟨.ne, rfl, fun _ _ _ => rfl, fun _ _ _ => rfl⟩,
    ⟨.be, rfl, fun _ _ _ => rfl, fun _ _ _ => rfl⟩, ⟨.a, rfl, fun _ _ _ => rfl, fun _ _ _ => rfl⟩,
    ⟨.s, rfl, fun _ _ _ => rfl, fun _ _ _ => rfl⟩, ⟨.ns, rfl, fun _ _ _ => rfl, fun _ _ _ => rfl⟩,
    ⟨.p, rfl, fun _ _ _ => rfl, fun _ _ _ => rfl⟩, ⟨.np, rfl, fun _ _ _ => rfl, fun _ _ _ => rfl⟩,
    ⟨.l, rfl, fun _ _ _ => rfl, fun _ _ _ => rfl⟩, ⟨.ge, rfl, fun _ _ _ => rfl, fun _ _ _ => rfl⟩,
    ⟨.le, rfl, fun _ _ _ => rfl, fun _ _ _ => rfl⟩, ⟨.g, rfl, fun _ _ _ => rfl, fun _ _ _ => rfl⟩, nofun⟩

theorem exec_of_cmovForm {cond : StatusFlags → Bool} {w : Nat} {dst src : Place w} {i : Instr} (s : State)
    (form : CmovForm cond dst src i) : ∃ c, condition c = cond ∧ exec i s = cmov c dst src s := by
  cases form with
  | r16 row h r rm =>
    obtain ⟨c, gives⟩ := exists_givesRow row h
    exact ⟨c, gives.tests, gives.exec16 r rm s⟩
  | r32 row h r rm =>
    obtain ⟨c, gives⟩ := exists_givesRow row h
    exact ⟨c, gives.tests, gives.exec32 r rm s⟩

section
variable {c : Cond} {w : Nat} {dst src : Place w} {s : State}

theorem cmov_of_true {addrs : List Nat} (hr : Readable s (dst.regs ++ src.regs)) (hc : condition c s.status = true)
    (ho : s.openPlace src .read = .ok addrs) :
    cmov c dst src s = .next (s.wrote dst [] (s.peek src addrs) s.status 0) :=
  cmov_eq_next.mpr ⟨State.checkNat_eq_ok.mpr hr, .inl ⟨hc, addrs, ho, rfl⟩⟩

/-- A CMOVcc whose condition is false is its load, where it makes one, and what the choice of the load leaves. -/
theorem cmov_of_false (hr : Readable s (dst.regs ++ src.regs)) (hc : condition c s.status = false) :
    cmov c dst src s = toOutcome (cmovFalse src s >>= fun u => .ok u.advance) := by
  simp only [cmov, checkNat_bind_of_readable hr, hc, pure_eq]

theorem cmovFalse_of_noLoad (h : s.cfg.cmovFalseLoads = .never ∨ ∀ m, src ≠ .mem m) : cmovFalse src s = .ok s := by
  cases src with
  | r8 | r16 | r32 => rfl
  | mem m =>
    have never : s.cfg.cmovFalseLoads = .never := h.resolve_right fun register => register m rfl
    simp only [cmovFalse, State.cmovLoads, State.cmovDrew, never]

section
variable {m : MemOp}

theorem cmovFalse_of_fault {f : Fault} (always : s.cfg.cmovFalseLoads = .always)
    (h : s.memAccess m [w / 8] .read = .error (.fault f)) :
    cmovFalse (.mem m : Place w) s = .error (.fault f) := by
  simp only [cmovFalse, State.cmovLoads, always, State.openPlace_mem, h, error_bind]

/-- Whether or not the load is made, one that would succeed changes nothing. -/
theorem cmovFalse_of_access {addrs : List Nat} (h : s.memAccess m [w / 8] .read = .ok addrs) :
    cmovFalse (.mem m : Place w) s = .ok s.cmovDrew := by
  cases loads : s.cmovLoads <;> simp only [cmovFalse, loads, State.openPlace_mem, h, ok_bind, pure_eq]

end

theorem cmovDrew_of_always (h : s.cfg.cmovFalseLoads = .always) : s.cmovDrew = s := by
  rw [State.cmovDrew, h]

theorem cmovDrew_of_perExecution (h : s.cfg.cmovFalseLoads = .perExecution) : s.cmovDrew = s.drew 1 := by
  rw [State.cmovDrew, h]

end

/-! ### CMPS (46_cmov_string_cmpxchg.md R322) -/

theorem exec_of_cmpsForm {w : Nat} {a : OpSize} {g : SegReg} {i : Instr} (s : State) (h : CmpsForm w a g i) :
    exec i s = cmps w a g s := by
  cases h <;> rfl

/-- An index register of the address size `a` moved on by `n` bytes, down where DF is set. -/
def movedIndex (a : OpSize) (df : Bool) (n : Nat) (x : DWord) : DWord :=
  let moved := if df then x - BitVec.ofNat 32 n else x + BitVec.ofNat 32 n
  match a with
  | .s32 => moved
  | .s16 => withWord x (moved.extractLsb' 0 16)

theorem extractLsb'_add_ofNat (x : DWord) (n : Nat) :
    (x + BitVec.ofNat 32 n).extractLsb' 0 16 = x.extractLsb' 0 16 + BitVec.ofNat 16 n := by
  apply BitVec.eq_of_toNat_eq
  simp only [BitVec.extractLsb'_toNat, BitVec.toNat_add, BitVec.toNat_ofNat, Nat.shiftRight_zero]
  omega

theorem extractLsb'_sub_ofNat (x : DWord) (n : Nat) :
    (x - BitVec.ofNat 32 n).extractLsb' 0 16 = x.extractLsb' 0 16 - BitVec.ofNat 16 n := by
  apply BitVec.eq_of_toNat_eq
  simp only [BitVec.extractLsb'_toNat, BitVec.toNat_sub, BitVec.toNat_ofNat, Nat.shiftRight_zero]
  omega

theorem stepIndex_eq (s : State) (a : OpSize) (r : Reg) (n : Nat) :
    s.stepIndex a r n = s.set32 r (movedIndex a s.flags.df n (s.reg32 r)) := by
  cases a with
  | s32 => cases df : s.flags.df <;> simp [State.stepIndex, movedIndex, df]
  | s16 =>
    cases df : s.flags.df with
    | false =>
      simp only [State.stepIndex, movedIndex, df, Bool.false_eq_true, if_false, extractLsb'_add_ofNat]
      rfl
    | true =>
      simp only [State.stepIndex, movedIndex, df, if_true, extractLsb'_sub_ofNat]
      rfl

/-- The state that CMPS goes on to: new status flags, and both index registers moved on. -/
def State.compared (s : State) (a : OpSize) (n : Nat) (f : StatusFlags) : State :=
  (((s.setStatus f).stepIndex a .esi n).stepIndex a .edi n).advance

section
variable (s : State) (a : OpSize) (n : Nat) (f : StatusFlags)

theorem compared_eq : s.compared a n f =
    (((s.setStatus f).set32 .esi (movedIndex a s.flags.df n (s.reg32 .esi))).set32 .edi
      (movedIndex a s.flags.df n (s.reg32 .edi))).advance := by
  simp only [State.compared, stepIndex_eq]
  rfl

theorem compared_other {r : Reg} (hsi : r ≠ .esi) (hdi : r ≠ .edi) : (s.compared a n f).reg32 r = s.reg32 r := by
  rw [compared_eq]
  exact get_set_set_other s.regs hsi hdi

theorem compared_index {r : Reg} (hr : r ∈ [Reg.esi, .edi]) :
    (s.compared a n f).reg32 r = movedIndex a s.flags.df n (s.reg32 r) := by
  rw [compared_eq]
  simp only [List.mem_cons, List.not_mem_nil, or_false] at hr
  rcases hr with rfl | rfl <;> rfl

end

/-! ### Writing back the value that stands there -/

section
variable (s : State) {w : Nat} (p : Place w) (addrs : List Nat) (v : BitVec w)

@[simp] theorem poke_nextPc : (s.poke p addrs v).nextPc = s.nextPc :=
  (congrArg State.nextPc (State.poke_eq s p addrs v) :)

@[simp] theorem poke_status : (s.poke p addrs v).status = s.status :=
  (congrArg State.status (State.poke_eq s p addrs v) :)

@[simp] theorem poke_draws : (s.poke p addrs v).draws = s.draws :=
  (congrArg State.draws (State.poke_eq s p addrs v) :)

end

theorem withByte_byteOf (x : DWord) (high : Bool) : withByte x high (byteOf x high) = x := by
  cases high with
  | false =>
    exact (BitVec.extractLsb'_append_extractLsb'_eq_extractLsb' rfl).trans BitVec.extractLsb'_eq_self
  | true =>
    have upper : x.extractLsb' 16 16 ++ x.extractLsb' 8 8 = x.extractLsb' 8 24 :=
      BitVec.extractLsb'_append_extractLsb'_eq_extractLsb' rfl
    rw [withByte, byteOf, upper]
    exact (BitVec.extractLsb'_append_extractLsb'_eq_extractLsb' rfl).trans BitVec.extractLsb'_eq_self

theorem withWord_extractLsb' (x : DWord) : withWord x (x.extractLsb' 0 16) = x :=
  (BitVec.extractLsb'_append_extractLsb'_eq_extractLsb' rfl).trans BitVec.extractLsb'_eq_self

theorem exists_last_getElem? {α : Type} {l : List α} {a : α} (h : a ∈ l) :
    ∃ k, l[k]? = some a ∧ a ∉ l.drop (k + 1) := by
  induction l with
  | nil => cases h
  | cons b l ih =>
    by_cases later : a ∈ l
    · obtain ⟨k, hk, last⟩ := ih later
      exact ⟨k + 1, hk, last⟩
    · obtain rfl : a = b := (List.mem_cons.mp h).resolve_right later
      exact ⟨0, rfl, later⟩

/-- Storing the value that a load gives changes no byte, also where some of the addresses are one. -/
theorem store_load_read (s : State) {w : Nat} {addrs : List Nat} (hw : w = 8 * addrs.length) (x : Nat) :
    Memory.read (s.store addrs (s.load w addrs)).mem x = Memory.read s.mem x := by
  by_cases hx : x ∈ addrs
  · obtain ⟨k, hk, last⟩ := exists_last_getElem? hx
    rw [store_holds s addrs _ k x hk last, load_byte s addrs hw hk]
  · exact State.store_read_other s addrs _ x hx

section
variable (s : State) {w : Nat} {p : Place w}

theorem poke_peek_register (hp : ∀ m, p ≠ .mem m) (addrs : List Nat) : s.poke p addrs (s.peek p addrs) = s := by
  cases p with
  | r8 r => simp [State.poke, State.peek, State.set8, State.reg8, withByte_byteOf]
  | r16 r => simp [State.poke, State.peek, State.set16, State.reg16, withWord_extractLsb']
  | r32 r => simp [State.poke, State.peek, State.set32, State.reg32]
  | mem m => exact absurd rfl (hp m)

/-- An opened operand that gets its own value back: only the record of stores changes, by the addresses of a memory
operand. -/
theorem poke_peek_leaves {u : State} {kind : AccessKind} {addrs : List Nat} (ho : u.openPlace p kind = .ok addrs)
    (hw : 8 * (w / 8) = w) :
    (s.poke p addrs (s.peek p addrs)).regs = s.regs ∧
      (∀ x, Memory.read (s.poke p addrs (s.peek p addrs)).mem x = Memory.read s.mem x) ∧
      ∀ x, x ∈ (s.poke p addrs (s.peek p addrs)).stored ↔ x ∈ addrs ∨ x ∈ s.stored := by
  cases p with
  | r8 | r16 | r32 =>
    cases ho
    rw [poke_peek_register s (by simp)]
    simp
  | mem m =>
    have length : addrs.length = w / 8 := by simpa using State.segAccess_length ho
    have kept : (s.store addrs (s.load w addrs)).regs = s.regs := by rw [State.store_eq]
    exact ⟨kept, store_load_read s (length ▸ hw.symm), State.mem_store_stored s addrs _⟩

end

/-- An operand copied into a register is as it was, even where it is a part of that register. -/
theorem peek_poke_copied (s : State) {w : Nat} {p q : Place w} (hp : ∀ m, p ≠ .mem m) (l addrs : List Nat) :
    (s.poke p l (s.peek q addrs)).peek q addrs = s.peek q addrs := by
  cases q with
  | mem m =>
    cases p with
    | r8 | r16 | r32 => rfl
    | mem m => exact absurd rfl (hp m)
  | r8 q =>
    cases p with
    | mem m => exact absurd rfl (hp m)
    | r8 p =>
      simp only [State.poke, State.peek, State.reg8, State.set8_regs]
      by_cases parent : q.parent = p.parent
      · rw [parent, RegFile.get_set_same]
        by_cases high : q.high = p.high
        · rw [high, byteOf_withByte]
        · have other : q.high = !p.high := Bool.eq_not.mpr high
          rw [other, byteOf_withByte_other]
      · rw [RegFile.get_set_other _ _ _ _ parent]
  | r16 q =>
    cases p with
    | mem m => exact absurd rfl (hp m)
    | r16 p =>
      simp only [State.poke, State.peek, State.reg16, State.set16_regs]
      by_cases same : q = p
      · rw [same, RegFile.get_set_same, extractLsb'_withWord]
      · rw [RegFile.get_set_other _ _ _ _ same]
  | r32 q =>
    cases p with
    | mem m => exact absurd rfl (hp m)
    | r32 p =>
      simp only [State.poke, State.peek, State.reg32, State.set32_regs]
      by_cases same : q = p
      · rw [same, RegFile.get_set_same]
      · rw [RegFile.get_set_other _ _ _ _ same]

theorem registersWritten_congr {s t t' : State} {w : Nat} {p : Place w} {v : BitVec w} (h : t'.regs = t.regs)
    (written : RegistersWritten p v s t) : RegistersWritten p v s t' := by
  have kept (r : Reg) : t'.reg32 r = t.reg32 r := by rw [State.reg32, State.reg32, h]
  cases p with
  | r8 | r16 | r32 => simpa only [RegistersWritten, OthersKept, kept] using written
  | mem m => exact h.trans written

/-! ### CMPXCHG (46_cmov_string_cmpxchg.md R318) -/

/-- The state that CMPXCHG goes on to: the destination's value in the accumulator, and `v` in the destination. -/
def State.exchanged (s : State) {w : Nat} (acc dst : Place w) (addrs : List Nat) (v : BitVec w) (f : StatusFlags) :
    State :=
  (((s.setStatus f).poke acc [] (s.peek dst addrs)).poke dst addrs v).advance

theorem operands_of_cmpxchgForm {lock : Bool} {w : Nat} {acc dst src : Place w} {i : Instr}
    (h : CmpxchgForm lock acc dst src i) : (∀ m, acc ≠ .mem m) ∧ 8 * (w / 8) = w := by
  cases h <;> simp

section
variable (s : State) {w : Nat} {acc dst : Place w} {addrs : List Nat} (v : BitVec w) (f : StatusFlags)

theorem completed_exchanged : Completed 0 s (s.exchanged acc dst addrs v f) :=
  ⟨by simp [State.exchanged], by simp [State.exchanged], by simp [State.exchanged]⟩

theorem exchanged_status : (s.exchanged acc dst addrs v f).status = f := by
  simp [State.exchanged]

theorem peek_setStatus (p : Place w) (l : List Nat) : (s.setStatus f).peek p l = s.peek p l := by
  cases p <;> rfl

variable (hacc : ∀ m, acc ≠ .mem m)
include hacc

/-- An accumulator that equals the destination gets its own value, so only the destination is written. -/
theorem exchanged_of_eq (h : s.peek acc [] = s.peek dst addrs) :
    s.exchanged acc dst addrs v f = s.wrote dst addrs v f 0 := by
  rw [State.exchanged, ← h, ← peek_setStatus s f acc, poke_peek_register _ hacc]
  rfl

/-- A destination that gets its own value leaves the write of the accumulator alone. -/
theorem exchanged_back {kind : AccessKind} (ho : s.openPlace dst kind = .ok addrs) (hw : 8 * (w / 8) = w) :
    let d := s.peek dst addrs
    let t := s.exchanged acc dst addrs d f
    RegistersWritten acc d s t ∧ (∀ x, Memory.read t.mem x = Memory.read s.mem x) ∧
      ∀ x, x ∈ t.stored ↔ x ∈ addrs ∨ x ∈ s.stored := by
  intro d t
  let u := (s.setStatus f).poke acc [] d
  have copied : u.peek dst addrs = d := by
    simpa only [peek_setStatus] using peek_poke_copied (s.setStatus f) (q := dst) hacc [] addrs
  obtain ⟨regs, bytes, stored⟩ := poke_peek_leaves u ho hw
  rw [copied] at regs bytes stored
  have memory : u.mem = s.mem ∧ u.stored = s.stored := by
    cases acc with
    | r8 | r16 | r32 => exact ⟨rfl, rfl⟩
    | mem m => exact absurd rfl (hacc m)
  obtain ⟨mem, record⟩ := memory
  exact ⟨registersWritten_congr regs (registersWritten_poke rfl acc [] d), mem ▸ bytes, record ▸ stored⟩

end

/-! ### CMPXCHG8B (46_cmov_string_cmpxchg.md R321) -/

/-- The state that CMPXCHG8B goes on to: `d` in EDX:EAX, `v` stored, ZF as the comparison gives it. -/
def State.exchanged8 (s : State) (addrs : List Nat) (d v : QWord) (zf : Bool) : State :=
  ((((s.setStatus { s.status with zf := zf }).set32 .edx (d.extractLsb' 32 32)).set32 .eax
    (d.extractLsb' 0 32)).store addrs v).advance

section
variable {lock : Bool} {m : MemOp} {s : State} {addrs : List Nat}
  (hr : Readable s ([.eax, .ebx, .ecx, .edx] ++ m.ea.regs))
  (hl : s.checkLock .cmpxchg8b lock m (s.offset m.ea) 8 = .ok ()) (ha : s.memAccess m [8] .write = .ok addrs)
include hr hl ha

theorem exec_cmpxchg8b : exec (.cmpxchg8b lock m) s = .next (s.exchanged8 addrs (s.load 64 addrs)
    (if s.edxEax = s.load 64 addrs then s.ecxEbx else s.load 64 addrs) (s.edxEax == s.load 64 addrs)) := by
  have run : exec (.cmpxchg8b lock m) s = execCmpxchg8b lock m s := rfl
  simp only [run, execCmpxchg8b, checkNat_bind_of_readable hr, hl, ha, ok_bind, pure_eq, toOutcome_ok]
  rfl

theorem exec_cmpxchg8b_of_eq (h : s.edxEax = s.load 64 addrs) :
    exec (.cmpxchg8b lock m) s = .next (s.exchanged8 addrs (s.load 64 addrs) s.ecxEbx true) := by
  rw [exec_cmpxchg8b hr hl ha, if_pos h, beq_iff_eq.mpr h]

theorem exec_cmpxchg8b_of_ne (h : s.edxEax ≠ s.load 64 addrs) :
    exec (.cmpxchg8b lock m) s = .next (s.exchanged8 addrs (s.load 64 addrs) (s.load 64 addrs) false) := by
  rw [exec_cmpxchg8b hr hl ha, if_neg h, beq_eq_false_iff_ne.mpr h]

end

section
variable (s : State) (addrs : List Nat) (d v : QWord) (zf : Bool)

/-- The store comes last and changes memory and the record of stores alone. -/
theorem exchanged8_eq : s.exchanged8 addrs d v zf =
    { s with
      regs := (s.regs.set .edx (d.extractLsb' 32 32)).set .eax (d.extractLsb' 0 32)
      status := { s.status with zf := zf }
      pc := s.nextPc
      mem := (s.exchanged8 addrs d v zf).mem
      stored := (s.exchanged8 addrs d v zf).stored } := by
  rw [State.exchanged8, State.store_eq]
  rfl

theorem completed_exchanged8 : Completed 0 s (s.exchanged8 addrs d v zf) := by
  rw [exchanged8_eq]
  exact ⟨rfl, rfl, rfl⟩

theorem exchanged8_regs : (s.exchanged8 addrs d v zf).regs =
    (s.regs.set .edx (d.extractLsb' 32 32)).set .eax (d.extractLsb' 0 32) := by
  rw [exchanged8_eq]

/-- EDX:EAX is `d`, and every other register is as before. -/
theorem exchanged8_edxEax :
    let t := s.exchanged8 addrs d v zf
    t.reg32 .edx = d.extractLsb' 32 32 ∧ t.reg32 .eax = d.extractLsb' 0 32 ∧
      ∀ r, r ≠ .eax → r ≠ .edx → t.reg32 r = s.reg32 r := by
  simp only [State.reg32, exchanged8_regs]
  exact ⟨rfl, rfl, fun r ha hd => get_set_set_other s.regs hd ha⟩

theorem exchanged8_status : (s.exchanged8 addrs d v zf).status = { s.status with zf := zf } := by
  rw [exchanged8_eq]

theorem storedAt_exchanged8 : StoredAt addrs v s (s.exchanged8 addrs d v zf) :=
  store_storedAt (((s.setStatus { s.status with zf := zf }).set32 .edx (d.extractLsb' 32 32)).set32 .eax
    (d.extractLsb' 0 32)) addrs v

/-- EDX:EAX written with its own value. -/
theorem exchanged8_regs_of_eq (h : s.reg32 .edx ++ s.reg32 .eax = d) :
    (s.exchanged8 addrs d v zf).regs = s.regs := by
  have high : d.extractLsb' 32 32 = s.regs.get .edx := by
    rw [← h, BitVec.extractLsb'_append_eq_of_le (by decide)]
    exact BitVec.extractLsb'_eq_self
  have low : d.extractLsb' 0 32 = s.regs.get .eax := by
    rw [← h, BitVec.extractLsb'_append_eq_of_add_le (by decide)]
    exact BitVec.extractLsb'_eq_self
  rw [exchanged8_regs, high, low, RegFile.set_get, RegFile.set_get]

theorem exchanged8_back (hlen : addrs.length = 8) (x : Nat) :
    Memory.read (s.exchanged8 addrs (s.load 64 addrs) (s.load 64 addrs) zf).mem x = Memory.read s.mem x :=
  store_load_read (((s.setStatus { s.status with zf := zf }).set32 .edx ((s.load 64 addrs).extractLsb' 32 32)).set32
    .eax ((s.load 64 addrs).extractLsb' 0 32)) (by rw [hlen]) x

end

end Sys2Proof.Machine

section

open Sys2Proof Sys2Proof.Machine Sys2Proof.Claims

/-- Settles O56: the condition decides between the move and the choice of the load. -/
theorem conditionalMoveMovesOnCondition : Obligations.ConditionalMoveMovesOnCondition := by
  intro cond w dst src i s form hr
  obtain ⟨c, rfl, run⟩ := exec_of_cmovForm s form
  rw [run]
  refine ⟨fun addrs hc ho => ?_, fun hc noLoad => ?_, fun m hc hm => ?_⟩
  · exact ⟨_, cmov_of_true hr hc ho, completed_wrote .., wrote_status .., written_wrote ..⟩
  · rw [cmov_of_false hr hc, cmovFalse_of_noLoad noLoad]
    rfl
  · subst hm
    rw [cmov_of_false hr hc]
    refine ⟨fun f always ha => ?_, fun addrs always ha => ?_, fun addrs each ha => ?_⟩
    · rw [cmovFalse_of_fault always ha]
      rfl
    · rw [cmovFalse_of_access ha, cmovDrew_of_always always]
      rfl
    · rw [cmovFalse_of_access ha, cmovDrew_of_perExecution each]
      rfl

/-- Settles O57: both indexes move by the same function of their old values. -/
theorem compareStringsStepsTheIndexes : Obligations.CompareStringsStepsTheIndexes := by
  intro w a g i s p q form hr hp hq x y
  have run : exec i s = .next (s.compared a (w / 8) (subFlags x y)) :=
    (exec_of_cmpsForm s form).trans (cmps_eq_next.mpr ⟨State.checkNat_eq_ok.mpr hr, p, q, hp, hq, rfl⟩)
  refine ⟨_, run, ?_, ?_, ?_, fun r => compared_other s a _ _, fun r hmem => ?_⟩
  · rw [compared_eq]
    exact ⟨by simp, rfl, rfl⟩
  · rw [compared_eq]
    exact ⟨rfl, rfl⟩
  · rw [compared_eq]
    exact differenceFlags_subFlags
  · rw [compared_index s a _ _ hmem]
    cases a <;> rfl

/-- Settles O58: the accumulator gets its own value back, or the destination does. -/
theorem compareAndExchange : Obligations.CompareAndExchange := by
  intro lock w acc dst src i s addrs form hr hl ho a d
  obtain ⟨register, whole⟩ := operands_of_cmpxchgForm form
  have run : exec i s =
      .next (s.exchanged acc dst addrs (if a = d then s.peek src [] else d) (subFlags a d)) :=
    (exec_of_cmpxchgForm s form).trans (cmpxchg_eq_next.mpr ⟨State.checkNat_eq_ok.mpr hr, hl, addrs, ho, rfl⟩)
  refine ⟨_, run, completed_exchanged .., ?_, fun equal => ?_, fun unequal => ?_⟩
  · rw [exchanged_status]
    exact differenceFlags_subFlags
  · rw [if_pos equal, exchanged_of_eq s _ _ register equal]
    exact written_wrote ..
  · rw [if_neg unequal]
    exact exchanged_back s _ register ho whole

/-- Settles O59: EDX:EAX gets its own value back, or the eight bytes do. -/
theorem compareAndExchangeEightBytes : Obligations.CompareAndExchangeEightBytes := by
  intro lock m s addrs hr hl ha d equal
  by_cases h : equal
  · refine ⟨_, exec_cmpxchg8b_of_eq hr hl ha h, completed_exchanged8 .., ?_, ?_, fun _ => ?_, fun ne => absurd h ne⟩
    · rw [exchanged8_status]
    · rw [exchanged8_status]
      exact iff_of_true rfl h
    · exact ⟨exchanged8_regs_of_eq s addrs d _ _ h, storedAt_exchanged8 ..⟩
  · refine ⟨_, exec_cmpxchg8b_of_ne hr hl ha h, completed_exchanged8 .., ?_, ?_, fun eq => absurd eq h, fun _ => ?_⟩
    · rw [exchanged8_status]
    · rw [exchanged8_status]
      exact iff_of_false nofun h
    · obtain ⟨edx, eax, others⟩ := exchanged8_edxEax s addrs d d false
      obtain ⟨-, -, stored⟩ := storedAt_exchanged8 s addrs d d false
      exact ⟨edx, eax, others, exchanged8_back s addrs _ (State.segAccess_length ha), stored⟩

end

/-! ## Settling the statement about CPUID (47_cpuid.md)

CPUID checks the NaT bit of EAX and then goes on to `State.identified`, which writes a row of four values. What is left
is the row of each leaf: the configuration's values under the mask of the reserved bits. -/

namespace Sys2Proof.Machine

open Sys2Proof.Claims

/-! ### The state that CPUID goes on to -/

/-- The row in EAX, EBX, ECX and EDX, an empty record of stores, and four free values drawn. -/
def State.identified (s : State) (row : CpuidRow) : State :=
  ((s.setCpuid row).drew 4).serialize.advance

theorem exec_cpuid {s : State} (h : Readable s [.eax]) :
    exec .cpuid s = .next (s.identified (cpuidRow s.cfg.cpuid (s.reg32 .eax) s.freeRow)) :=
  congrArg toOutcome (checkNat_bind_of_readable h _)

section
variable (s : State) (row : CpuidRow)

theorem sameElse_identified : SameElse s (s.identified row) := by
  simp [State.identified]

theorem identified_outputs :
    let t := s.identified row
    t.reg32 .eax = row.eax ∧ t.reg32 .ebx = row.ebx ∧ t.reg32 .ecx = row.ecx ∧ t.reg32 .edx = row.edx :=
  ⟨rfl, rfl, rfl, rfl⟩

theorem identified_other {r : Reg} (h : r ∉ [Reg.eax, .ebx, .ecx, .edx]) :
    (s.identified row).reg32 r = s.reg32 r := by
  simp only [List.mem_cons, List.not_mem_nil, or_false, not_or] at h
  obtain ⟨eax, ebx, ecx, edx⟩ := h
  calc (s.identified row).reg32 r
      = ((s.regs.set .eax row.eax).set .ebx row.ebx).get r := get_set_set_other _ ecx edx
    _ = s.reg32 r := get_set_set_other _ eax ebx

end

/-! ### The row of a leaf (47_cpuid.md R330, R332) -/

/-- A bit outside the mask is the value's own. -/
theorem maskedBits_getLsbD_kept {mask : DWord} (free v : DWord) {k : Nat} (hk : k < 32)
    (h : mask.getLsbD k = false) : (maskedBits mask free v).getLsbD k = v.getLsbD k := by
  rw [maskedBits_getLsbD mask free v k hk, h, if_neg Bool.false_ne_true]

section
variable {c : CpuidConfig} {leaf : DWord}

theorem cpuidInRange_iff : cpuidInRange c leaf = true ↔
    if leaf.toNat < 0x80000000 then leaf.toNat ≤ c.maxBasic.toNat else leaf.toNat ≤ c.maxExtended.toNat := by
  unfold cpuidInRange
  split <;> exact decide_eq_true_iff

theorem cpuidRow_of_inRange (h : cpuidInRange c leaf = true) (free : CpuidRow) :
    cpuidRow c leaf free = maskedRow (cpuidReserved leaf) free (cpuidFixed c leaf) := by
  rw [cpuidRow, h]

theorem configRow_of_lookup {row : CpuidRow} (h : c.leaves.lookup leaf = some row) : configRow c leaf = row := by
  rw [configRow, h]

/-- Leaf 0 is at most the highest basic leaf, whatever that is. -/
theorem cpuidRow_zero (c : CpuidConfig) (free : CpuidRow) : cpuidRow c 0 free =
    { eax := c.maxBasic, ebx := 0x756E6547, ecx := 0x6C65746E, edx := 0x49656E69 } :=
  cpuidRow_of_inRange (cpuidInRange_iff.mpr (Nat.zero_le _)) free

section
variable (h : cpuidInRange c 1 = true) (free : CpuidRow)
include h

theorem cpuidRow_one_eax : (cpuidRow c 1 free).eax = maskedBits 0xF000C000 free.eax (configRow c 1).eax := by
  rw [cpuidRow_of_inRange h]
  rfl

theorem cpuidRow_one_ebx : (cpuidRow c 1 free).ebx = leaf1Ebx (configRow c 1).ebx := by
  rw [cpuidRow_of_inRange h]
  rfl

theorem cpuidRow_one_edx : (cpuidRow c 1 free).edx = maskedBits 0x400 free.edx (leaf1Edx (configRow c 1).edx) := by
  rw [cpuidRow_of_inRange h]
  rfl

end

theorem cpuidRow_highestExtended (h : cpuidInRange c 0x80000000 = true) (free : CpuidRow) :
    (cpuidRow c 0x80000000 free).eax = c.maxExtended := by
  rw [cpuidRow_of_inRange h]
  rfl

/-- No bit is reserved, and none is fixed, outside the four leaves that the rules name. -/
theorem cpuidRow_of_unnamed (named : leaf ∉ [(0 : DWord), 1, 0x80000000, 0x80000001])
    (h : cpuidInRange c leaf = true) (free : CpuidRow) : cpuidRow c leaf free = configRow c leaf := by
  have other (v : DWord) (hv : v ∈ [(0 : DWord), 1, 0x80000000, 0x80000001]) : leaf.toNat ≠ v.toNat :=
    fun same => named (BitVec.eq_of_toNat_eq same ▸ hv)
  have notBasic0 : leaf.toNat ≠ 0 := other 0 (by decide)
  have notBasic1 : leaf.toNat ≠ 1 := other 1 (by decide)
  have notExtended0 : leaf.toNat ≠ 0x80000000 := other 0x80000000 (by decide)
  have notExtended1 : leaf.toNat ≠ 0x80000001 := other 0x80000001 (by decide)
  have fixed : cpuidFixed c leaf = configRow c leaf := by
    unfold cpuidFixed
    split
    · contradiction
    · contradiction
    · contradiction
    · rfl
  have reserved : cpuidReserved leaf = { eax := 0, ebx := 0, ecx := 0, edx := 0 } := by
    unfold cpuidReserved
    split
    · contradiction
    · contradiction
    · contradiction
    · rfl
  rw [cpuidRow_of_inRange h, fixed, reserved]
  rfl

end

/-! ### The fixed bits of leaf 1 (47_cpuid.md R332, R334) -/

theorem leaf1Ebx_brand (v : DWord) : (leaf1Ebx v).extractLsb' 0 8 = 0 := by
  rw [leaf1Ebx, BitVec.extractLsb'_and]
  exact BitVec.and_zero

theorem leaf1Ebx_above (v : DWord) : (leaf1Ebx v).extractLsb' 8 24 = v.extractLsb' 8 24 := by
  rw [leaf1Ebx, BitVec.extractLsb'_and]
  exact BitVec.and_allOnes

theorem leaf1Edx_getLsbD (v : DWord) (k : Nat) :
    (leaf1Edx v).getLsbD k = (v.getLsbD k || (0x40008100 : DWord).getLsbD k) :=
  BitVec.getLsbD_or

section
variable {c : CpuidConfig} (h : cpuidInRange c 1 = true) (free : CpuidRow)
include h

/-- The required features are outside the reserved bit of EDX. -/
theorem cpuidRow_one_features {k : Nat} (hk : k ∈ [8, 15, 30]) : (cpuidRow c 1 free).edx.getLsbD k = true := by
  have facts : ∀ j ∈ [8, 15, 30],
      j < 32 ∧ (0x400 : DWord).getLsbD j = false ∧ (0x40008100 : DWord).getLsbD j = true := by decide
  obtain ⟨inside, notReserved, required⟩ := facts k hk
  rw [cpuidRow_one_edx h, maskedBits_getLsbD_kept _ _ inside notReserved, leaf1Edx_getLsbD, required, Bool.or_true]

theorem cpuidRow_one_eax_listed {k : Nat} (hk : k < 32) (listed : k ∉ [14, 15, 28, 29, 30, 31]) :
    (cpuidRow c 1 free).eax.getLsbD k = (configRow c 1).eax.getLsbD k := by
  have notReserved : ∀ j < 32, j ∉ [14, 15, 28, 29, 30, 31] → (0xF000C000 : DWord).getLsbD j = false := by decide
  rw [cpuidRow_one_eax h, maskedBits_getLsbD_kept _ _ hk (notReserved k hk listed)]

theorem cpuidRow_one_edx_listed {k : Nat} (hk : k < 32) (listed : k ∉ [8, 10, 15, 30]) :
    (cpuidRow c 1 free).edx.getLsbD k = (configRow c 1).edx.getLsbD k := by
  have facts : ∀ j < 32, j ∉ [8, 10, 15, 30] →
      (0x400 : DWord).getLsbD j = false ∧ (0x40008100 : DWord).getLsbD j = false := by decide
  obtain ⟨notReserved, notRequired⟩ := facts k hk listed
  rw [cpuidRow_one_edx h, maskedBits_getLsbD_kept _ _ hk notReserved, leaf1Edx_getLsbD, notRequired, Bool.or_false]

end

end Sys2Proof.Machine

section

open Sys2Proof Sys2Proof.Machine Sys2Proof.Claims

/-- Settles O60: the frame is that of `State.identified`, and each leaf has its row. -/
theorem cpuidIdentifiesAndSerializes : Obligations.CpuidIdentifiesAndSerializes := by
  refine ⟨fun z rest => decode_encode (i := .cpuid) rfl z rest,
    fun s he hn => checkNat_bind_of_nat (r := .eax) he (.head _) hn _, fun s hr => ?_⟩
  intro leaf c inRange
  obtain ⟨eax, ebx, ecx, edx⟩ := identified_outputs s (cpuidRow c leaf s.freeRow)
  refine ⟨_, exec_cpuid hr, sameElse_identified .., rfl, rfl, rfl, rfl, rfl, fun r => identified_other s _,
    fun hleaf => ?zero, fun hleaf hin => ?one, fun hleaf hin => ?extended, fun row named hin listed => ?other⟩
  case zero =>
    rw [eax, ebx, ecx, edx, hleaf, cpuidRow_zero]
    exact ⟨rfl, rfl, rfl, rfl⟩
  case one =>
    have range : cpuidInRange c 1 = true := hleaf ▸ cpuidInRange_iff.mpr hin
    have feature {k : Nat} := cpuidRow_one_features range s.freeRow (k := k)
    rw [eax, ebx, edx, hleaf, cpuidRow_one_ebx range]
    refine ⟨leaf1Ebx_brand _, feature (by decide), feature (by decide), feature (by decide), fun row listed => ?_⟩
    rw [← configRow_of_lookup listed]
    exact ⟨leaf1Ebx_above _, fun k hk =>
      ⟨cpuidRow_one_eax_listed range _ hk, cpuidRow_one_edx_listed range _ hk⟩⟩
  case extended =>
    have range : cpuidInRange c 0x80000000 = true := hleaf ▸ cpuidInRange_iff.mpr hin
    rw [eax, hleaf, cpuidRow_highestExtended range]
  case other =>
    rw [eax, ebx, ecx, edx, cpuidRow_of_unnamed named (cpuidInRange_iff.mpr hin), configRow_of_lookup listed]
    exact ⟨rfl, rfl, rfl, rfl⟩

end

/-! ## Settling the statements about events (60_exceptions.md)

`Stop.Lawful` says once what the events of R350 to R364 have in common: where they report, which error code they have,
and which environment they belong to. Every check of the model raises such a stop, so every instruction ends in one,
and so does every step. -/

namespace Sys2Proof.Machine

/-- The exceptions that have an error code outside real-address mode (60_exceptions.md R353; 92_eei_decisions.md D2). -/
def codedExceptions : List Exception := [.ts, .np, .ss, .gp, .ac]

/-- The exceptions that the model raises, in the order of Table 2-2 (60_exceptions.md R350). -/
def raisedExceptions : List Exception := [.de, .br, .ud, .ts, .np, .ss, .gp, .pf, .ac]

/-- What holds of an exception and its error code, in real-address mode or not and in the Itanium System Environment or
not (60_exceptions.md R350, R353; 92_eei_decisions.md D35). -/
structure LawfulException (real itanium : Bool) (e : Exception) (code : Option Word) : Prop where
  raised : e ∈ raisedExceptions
  coded : code ≠ none ↔ e ∈ codedExceptions ∧ real = false
  pageFault : e = .pf → itanium = false ∧ real = false
  invalidTss : e = .ts → itanium = false

/-- What holds of a stop of the instruction at `s`: it reports the instruction's first byte (60_exceptions.md R352), and
its environment is the one it belongs to (R356 to R361; 44_call.md R266). -/
def Stop.Lawful (s : State) : Stop → Prop
  | .fault (.exception e code ip _) => ip = s.pc ∧ LawfulException s.realMode s.itaniumSE e code
  | .fault (.intercept _ ip) => ip = s.pc ∧ s.itaniumSE = true
  | .fault (.itanium _ ip _) => ip = s.pc ∧ s.itaniumSE = true
  | .fault (.debugTrap _) => s.itaniumSE = true
  | .fault (.systemFlagTrap _) => s.itaniumSE = true
  | .fault .runEnded => True
  | .refused r => r = .taskSwitch → s.itaniumSE = false

/-- A computation at `s` that only lawful stops end. -/
def StopsLawfully {α : Type} (s : State) (x : Result α) : Prop := ∀ e, x = .error e → e.Lawful s

/-- An outcome at `s` that is a lawful stop, if it is one at all. -/
def EndsLawfully (s : State) (o : Host.Outcome State Fault Refusal) : Prop :=
  ∀ e, o = toOutcome (.error e) → e.Lawful s

/-! ### The stops that the model raises -/

section
variable {s : State}

theorem lawful_raise {e : Exception} (he : e ∈ [Exception.de, .br, .ud]) (a : Option AccessPoint) :
    (s.raise e a).Lawful s := by
  have facts : ∀ e ∈ [Exception.de, .br, .ud], e ∈ raisedExceptions ∧ e ∉ codedExceptions ∧ e ≠ .pf ∧ e ≠ .ts := by
    decide
  obtain ⟨raised, uncoded, notPf, notTs⟩ := facts e he
  exact ⟨rfl, raised, iff_of_false (fun h => h rfl) fun h => uncoded h.1, fun h => absurd h notPf,
    fun h => absurd h notTs⟩

/-- `#PF` has no error code here (92_eei_decisions.md D2), and one environment (D35). -/
theorem lawful_pageFault (ia32 : s.itaniumSE = false) (notReal : s.realMode = false) (a : Option AccessPoint) :
    (s.raise .pf a).Lawful s :=
  ⟨rfl, by decide, iff_of_false (fun h => h rfl) fun h => absurd h.1 (by decide), fun _ => ⟨ia32, notReal⟩, nofun⟩

/-- `raiseCode` leaves the code out exactly in real-address mode (60_exceptions.md R353). -/
theorem raiseCode_coded (code : Word) : (if s.realMode then none else some code) ≠ none ↔ s.realMode = false := by
  cases s.realMode <;> simp

theorem lawful_raiseCode {e : Exception} (he : e ∈ [Exception.np, .ss, .gp, .ac]) (code : Word)
    (a : Option AccessPoint) : (s.raiseCode e code a).Lawful s := by
  have facts : ∀ e ∈ [Exception.np, .ss, .gp, .ac], e ∈ raisedExceptions ∧ e ∈ codedExceptions ∧ e ≠ .pf ∧ e ≠ .ts := by
    decide
  obtain ⟨raised, coded, notPf, notTs⟩ := facts e he
  exact ⟨rfl, raised, (raiseCode_coded code).trans (and_iff_right coded).symm, fun h => absurd h notPf,
    fun h => absurd h notTs⟩

/-- `#TS` belongs to the IA-32 System Environment, where call gates are (44_call.md R262, R264). -/
theorem lawful_invalidTss (ia32 : s.itaniumSE = false) (sel : Word) : (s.raiseSel .ts sel).Lawful s :=
  ⟨rfl, by decide, (raiseCode_coded _).trans (and_iff_right (by decide)).symm, nofun, fun _ => ia32⟩

theorem lawful_raiseSel {e : Exception} (he : e ∈ [Exception.np, .ss, .gp]) (sel : Word) :
    (s.raiseSel e sel).Lawful s :=
  lawful_raiseCode (List.mem_append_left [.ac] he) _ _

theorem lawful_gp0 : s.gp0.Lawful s := lawful_raiseCode (by decide) _ _

theorem lawful_ss0 : s.ss0.Lawful s := lawful_raiseCode (by decide) _ _

theorem lawful_limitStop (r : SegReg) : (s.limitStop r).Lawful s := by
  cases r with
  | ss => exact lawful_ss0
  | es | cs | ds | fs | gs => exact lawful_gp0

theorem lawful_raiseItanium (itanium : s.itaniumSE = true) (f : ItaniumFault) (a : Option AccessPoint) :
    (s.raiseItanium f a).Lawful s := ⟨rfl, itanium⟩

theorem lawful_raiseIntercept (itanium : s.itaniumSE = true) (k : Intercept) : (s.raiseIntercept k).Lawful s :=
  ⟨rfl, itanium⟩

/-- Every refusal but that of a task switch is one in both environments. -/
theorem lawful_refused {r : Refusal} (h : r ≠ .taskSwitch) : (Stop.refused r).Lawful s := fun hr => absurd hr h

end

/-! ### Computations -/

section
variable {s : State} {α β : Type}

theorem stopsLawfully_ok (a : α) : StopsLawfully s (.ok a : Result α) := by
  intro e h
  cases h

theorem stopsLawfully_error {e : Stop} (h : e.Lawful s) : StopsLawfully s (.error e : Result α) := by
  rintro _ ⟨⟩
  exact h

theorem StopsLawfully.bind {x : Result α} {f : α → Result β} (hx : StopsLawfully s x)
    (hf : ∀ a, x = .ok a → StopsLawfully s (f a)) : StopsLawfully s (x >>= f) := by
  intro e h
  rcases bind_eq_error.mp h with h | ⟨a, ha, h⟩
  · exact hx e h
  · exact hf a ha e h

/-- A check owes its stop only where its condition holds, and the rest may use that it did not. -/
theorem StopsLawfully.check {c : Bool} {e : Stop} {f : Unit → Result β} (he : c = true → e.Lawful s)
    (hf : c = false → StopsLawfully s (f ())) : StopsLawfully s (stopIf c e >>= f) := by
  cases c with
  | true => exact stopsLawfully_error (he rfl)
  | false => exact hf rfl

/-- A computation whose result is only handed on. -/
theorem StopsLawfully.map {x : Result α} (hx : StopsLawfully s x) (f : α → β) :
    StopsLawfully s (x >>= fun a => .ok (f a)) := hx.bind fun _ _ => stopsLawfully_ok _

theorem EndsLawfully.of_stops {r : Result State} (h : StopsLawfully s r) : EndsLawfully s (toOutcome r) := by
  intro e he
  cases e with
  | fault f => exact h _ (toOutcome_eq_fault.mp he)
  | refused r => exact h _ (toOutcome_eq_refused.mp he)

theorem endsLawfully_next (t : State) : EndsLawfully s (.next t) := .of_stops (stopsLawfully_ok t)

theorem endsLawfully_fault {f : Fault} : EndsLawfully s (.fault f) ↔ (Stop.fault f).Lawful s :=
  ⟨fun h => h _ rfl, fun h => .of_stops (stopsLawfully_error h)⟩

end

/-! ### The checks that instructions share -/

section
variable (s : State)

theorem checkNat_lawful (rs : List Reg) : StopsLawfully s (s.checkNat rs) := by
  intro e h
  obtain ⟨hc, rfl⟩ := stopIf_eq_error.mp h
  exact lawful_raiseItanium (Bool.and_eq_true_iff.mp hc).1 _ _

theorem translate_lawful (k : AccessKind) (la : DWord) : StopsLawfully s (s.translate k la) := by
  unfold State.translate
  split
  · exact stopsLawfully_ok _
  split
  · next itanium => exact stopsLawfully_error (lawful_raiseItanium itanium _ _)
  next ia32 =>
  split
  · exact stopsLawfully_ok _
  · next notReal =>
    exact stopsLawfully_error <|
      lawful_pageFault (Bool.eq_false_of_not_eq_true ia32) (Bool.eq_false_of_not_eq_true notReal) _

theorem translateAll_lawful (k : AccessKind) (l : List DWord) : StopsLawfully s (s.translateAll k l) := by
  induction l with
  | nil => exact stopsLawfully_ok _
  | cons la l ih => exact (translate_lawful s k la).bind fun _ _ => ih.map _

theorem systemRead_lawful (w : Nat) (la : DWord) (n : Nat) : StopsLawfully s (s.systemRead w la n) :=
  (translateAll_lawful s _ _).map _

theorem checkAlignment_lawful (g : Segment) (a : OpSize) (off : DWord) (kind : AccessKind) (k : Nat)
    (items : List Nat) : StopsLawfully s (s.checkAlignment g a off kind k items) := by
  induction items generalizing k with
  | nil => exact stopsLawfully_ok _
  | cons n items ih => exact .check (fun _ => lawful_raiseCode (by decide) _ _) fun _ => ih _

theorem segAccess_lawful (r : SegReg) (a : OpSize) (off : DWord) (items : List Nat) (kind : AccessKind) :
    StopsLawfully s (s.segAccess r a off items kind) :=
  .check (fun _ => lawful_gp0) fun _ => .check (fun _ => lawful_limitStop r) fun _ => .check (fun _ => lawful_gp0)
    fun _ => (checkAlignment_lawful s _ _ _ _ _ _).bind fun _ _ => translateAll_lawful s _ _

theorem memAccess_lawful (m : MemOp) (items : List Nat) (kind : AccessKind) :
    StopsLawfully s (s.memAccess m items kind) := segAccess_lawful s _ _ _ _ _

theorem openPlace_lawful {w : Nat} (p : Place w) (kind : AccessKind) : StopsLawfully s (s.openPlace p kind) := by
  cases p with
  | r8 | r16 | r32 => exact stopsLawfully_ok _
  | mem m => exact memAccess_lawful s m _ kind

theorem readOperand_lawful {w : Nat} (o : Operand w) : StopsLawfully s (s.readOperand o) := by
  cases o with
  | imm v => exact stopsLawfully_ok _
  | place p => exact (openPlace_lawful s p .read).map _

/-- The lock intercept is one of the Itanium System Environment (20_memory.md R106). -/
theorem checkLock_lawful (op : LockOp) (lock : Bool) (m : MemOp) (off : DWord) (n : Nat) :
    StopsLawfully s (s.checkLock op lock m off n) := by
  intro e h
  obtain ⟨hc, rfl⟩ := stopIf_eq_error.mp h
  obtain ⟨itanium, -⟩ := (lockIntercepts_iff s op _ n).mp (Bool.and_eq_true_iff.mp hc).2
  exact lawful_raiseIntercept itanium _

theorem checkLockPlace_lawful (op : LockOp) (lock : Bool) {w : Nat} (p : Place w) :
    StopsLawfully s (s.checkLockPlace op lock p) := by
  cases p with
  | r8 | r16 | r32 => exact stopsLawfully_ok _
  | mem m => exact checkLock_lawful s op lock m _ _

theorem checkBitLock_lawful (op : BitOp) (lock : Bool) (m : MemOp) (off : DWord) (n : Nat) :
    StopsLawfully s (s.checkBitLock op lock m off n) := by
  cases op with
  | bt => exact stopsLawfully_ok _
  | btc | btr | bts => exact checkLock_lawful s _ lock m off n

theorem openBit_lawful (op : BitOp) (lock : Bool) {w : Nat} (base : Place w) (o : BitVec w) :
    StopsLawfully s (s.openBit op lock base o) := by
  cases base with
  | r8 | r16 | r32 => exact stopsLawfully_ok _
  | mem m => exact (checkBitLock_lawful s op lock m _ _).bind fun _ _ => (segAccess_lawful s _ _ _ _ _).map _

theorem cmovFalse_lawful {w : Nat} (src : Place w) : StopsLawfully s (cmovFalse src s) := by
  cases src with
  | r8 | r16 | r32 => exact stopsLawfully_ok _
  | mem m =>
    unfold cmovFalse
    cases s.cmovLoads with
    | true => exact (openPlace_lawful s _ _).map _
    | false => exact stopsLawfully_ok _

/-! ### Meanings without a jump -/

theorem alu_lawful (op : AluOp) (lock : Bool) {w : Nat} (dst : Place w) (src : Operand w) :
    EndsLawfully s (alu op lock dst src s) :=
  .of_stops <| (checkNat_lawful s _).bind fun _ _ => (checkLockPlace_lawful s _ _ _).bind fun _ _ =>
    (openPlace_lawful s _ _).bind fun _ _ => (readOperand_lawful s _).map _

theorem cmp_lawful {w : Nat} (dst : Place w) (src : Operand w) : EndsLawfully s (cmp dst src s) :=
  .of_stops <| (checkNat_lawful s _).bind fun _ _ => (readOperand_lawful s _).bind fun _ _ =>
    (readOperand_lawful s _).map _

theorem dec_lawful (lock : Bool) {w : Nat} (dst : Place w) : EndsLawfully s (dec lock dst s) :=
  .of_stops <| (checkNat_lawful s _).bind fun _ _ => (checkLockPlace_lawful s _ _ _).bind fun _ _ =>
    (openPlace_lawful s _ _).map _

theorem div_lawful {w : Nat} (regs : List Reg) (dividend : State → Nat) (put : BitVec w → BitVec w → State → State)
    (src : Place w) : EndsLawfully s (div regs dividend put src s) :=
  have divideError : (s.raise .de).Lawful s := lawful_raise (by decide) _
  .of_stops <| (checkNat_lawful s _).bind fun _ _ => (readOperand_lawful s _).bind fun _ _ =>
    .check (fun _ => divideError) fun _ => .check (fun _ => divideError) fun _ => stopsLawfully_ok _

theorem bitScan_lawful {w : Nat} (scan : BitVec w → Option Nat) (dst src : Place w) :
    EndsLawfully s (bitScan scan dst src s) :=
  .of_stops <| (checkNat_lawful s _).bind fun _ _ => (readOperand_lawful s _).map _

theorem bitTest_lawful (op : BitOp) (lock : Bool) {w : Nat} (base : Place w) (off : Operand w) :
    EndsLawfully s (bitTest op lock base off s) :=
  .of_stops <| (checkNat_lawful s _).bind fun _ _ => (openBit_lawful s _ _ _ _).map _

theorem execBswap_lawful (size : OpSize) (r : Reg) : EndsLawfully s (execBswap size r s) :=
  .of_stops <| (checkNat_lawful s _).bind fun _ _ => by
    cases size <;> exact stopsLawfully_ok _

theorem cmov_lawful (c : Cond) {w : Nat} (dst src : Place w) : EndsLawfully s (cmov c dst src s) :=
  .of_stops <| (checkNat_lawful s _).bind fun _ _ => by
    cases condition c s.status with
    | true => exact (readOperand_lawful s _).map _
    | false => exact (cmovFalse_lawful s src).map _

theorem cmpxchg_lawful (lock : Bool) {w : Nat} (acc dst src : Place w) :
    EndsLawfully s (cmpxchg lock acc dst src s) :=
  .of_stops <| (checkNat_lawful s _).bind fun _ _ => (checkLockPlace_lawful s _ _ _).bind fun _ _ =>
    (openPlace_lawful s _ _).map _

theorem execCmpxchg8b_lawful (lock : Bool) (m : MemOp) : EndsLawfully s (execCmpxchg8b lock m s) :=
  .of_stops <| (checkNat_lawful s _).bind fun _ _ => (checkLock_lawful s _ _ _ _ _).bind fun _ _ =>
    (memAccess_lawful s _ _ _).map _

theorem execArpl_lawful (rm : RM) (r : Reg) : EndsLawfully s (execArpl rm r s) :=
  .of_stops <| .check (fun _ => lawful_raise (by decide) _) fun _ => (checkNat_lawful s _).bind fun _ _ =>
    (openPlace_lawful s _ _).map _

theorem bound_lawful {w : Nat} (index : Place w) (m : MemOp) : EndsLawfully s (bound index m s) :=
  .of_stops <| (checkNat_lawful s _).bind fun _ _ => (memAccess_lawful s _ _ _).bind fun _ _ =>
    .check (fun _ => lawful_raise (by decide) _) fun _ => stopsLawfully_ok _

theorem cmps_lawful (w : Nat) (a : OpSize) (seg : SegReg) : EndsLawfully s (cmps w a seg s) :=
  .of_stops <| (checkNat_lawful s _).bind fun _ _ => (segAccess_lawful s _ _ _ _ _).bind fun _ _ =>
    (segAccess_lawful s _ _ _ _ _).map _

/-- An instruction that checks its registers' NaT bits and then always completes. -/
theorem checkNat_ends (rs : List Reg) (t : State) : EndsLawfully s (toOutcome do s.checkNat rs; return t) :=
  .of_stops <| (checkNat_lawful s rs).map _

theorem execAam_lawful (imm : Byte) : EndsLawfully s (execAam imm s) :=
  .of_stops <| (checkNat_lawful s _).bind fun _ _ => .check (fun _ => lawful_raise (by decide) _) fun _ =>
    stopsLawfully_ok _

theorem itaniumSE_of_cfg {u : State} (h : u.cfg = s.cfg) : u.itaniumSE = s.itaniumSE := by
  rw [State.itaniumSE, h, State.itaniumSE]

/-- The System Flag intercept is one of the Itanium System Environment (60_exceptions.md R358). -/
theorem cliFinish_lawful (old : Bool) {u : State} (hcfg : u.cfg = s.cfg) : StopsLawfully s (cliFinish old u) := by
  unfold cliFinish
  split
  · next h =>
    have itanium : u.itaniumSE = true := (Bool.and_eq_true_iff.mp (Bool.and_eq_true_iff.mp h).1).1
    exact stopsLawfully_error ((itaniumSE_of_cfg s hcfg).symm.trans itanium)
  · exact stopsLawfully_ok u

theorem execCli_lawful : EndsLawfully s (execCli s) := by
  refine .of_stops ?_
  cases cliAction s with
  | clearIf | clearVif => exact cliFinish_lawful s _ rfl
  | protection => exact stopsLawfully_error lawful_gp0

theorem execClts_lawful : EndsLawfully s (execClts s) :=
  .of_stops <| .check (fun itanium => lawful_raiseIntercept itanium _) fun _ => .check (fun _ => lawful_gp0) fun _ =>
    stopsLawfully_ok _

end

/-! ### CALL -/

section
variable (s : State)

/-- The taken-branch trap is one of the Itanium System Environment (60_exceptions.md R359). -/
theorem finishCall_lawful {u : State} (hcfg : u.cfg = s.cfg) : StopsLawfully s (finishCall u) := by
  unfold finishCall
  split
  · next h =>
    have itanium : u.itaniumSE = true := (Bool.and_eq_true_iff.mp h).1
    exact stopsLawfully_error ((itaniumSE_of_cfg s hcfg).symm.trans itanium)
  · exact stopsLawfully_ok u

theorem openSlots_lawful (n : Nat) (slots : List DWord) : StopsLawfully s (s.openSlots n slots) := by
  induction slots with
  | nil => exact stopsLawfully_ok _
  | cons off slots ih => exact (segAccess_lawful s _ _ _ _ _).bind fun _ _ => ih.map _

theorem nearCall_lawful (n : OpSize) (target : DWord) : StopsLawfully s (nearCall n target s) :=
  .check (fun _ => lawful_gp0) fun _ => .check (fun _ => lawful_ss0) fun _ => (openSlots_lawful s _ _).bind fun _ _ =>
    finishCall_lawful s (by rw [State.pushed_eq]; rfl)

theorem farReal_lawful (n : OpSize) (sel : Word) (off : DWord) : StopsLawfully s (farReal n sel off s) :=
  .check (fun _ => lawful_ss0) fun _ => .check (fun _ => lawful_gp0) fun _ => (openSlots_lawful s _ _).bind
    fun addrs _ => finishCall_lawful s (u := s.farCalled n addrs (s.segs.cs.loadReal sel) (n.wrap off))
      (by rw [farCalled_eq])

theorem readDescriptor_lawful (sel : Word) : StopsLawfully s (s.readDescriptor sel) := systemRead_lawful s _ _ _

theorem callSegment_lawful (n : OpSize) (sel : Word) (d : QWord) (target : DWord) :
    StopsLawfully s (callSegment n sel d target s) :=
  .check (fun _ => lawful_ss0) fun _ => .check (fun _ => lawful_gp0) fun _ => (openSlots_lawful s _ _).map _

theorem farCode_lawful (n : OpSize) (sel : Word) (off : DWord) (d : QWord) :
    StopsLawfully s (farCode n sel off d s) :=
  .check (fun _ => lawful_raiseSel (by decide) _) fun _ => .check (fun _ => lawful_raiseSel (by decide) _) fun _ =>
    (callSegment_lawful s _ _ _ _).bind fun t h => by
      obtain ⟨-, -, addrs, -, rfl⟩ := callSegment_eq_ok.mp h
      exact finishCall_lawful s
        (u := s.farCalled n addrs (Segment.ofDescriptor (withRpl sel s.cpl) d) (n.wrap off)) (by rw [farCalled_eq])

section
variable (ia32 : s.itaniumSE = false)
include ia32

theorem readTssStack_lawful (level : BitVec 2) : StopsLawfully s (s.readTssStack level) := by
  unfold State.readTssStack
  split <;>
    exact .check (fun _ => lawful_invalidTss ia32 _) fun _ => (systemRead_lawful s _ _ _).bind fun _ _ =>
      (systemRead_lawful s _ _ _).map _

theorem openNewStack_lawful (level : BitVec 2) (sel : Word) : StopsLawfully s (s.openNewStack level sel) :=
  .check (fun _ => lawful_invalidTss ia32 _) fun _ => .check (fun _ => lawful_invalidTss ia32 _) fun _ =>
    (readDescriptor_lawful s sel).bind fun _ _ => .check (fun _ => lawful_invalidTss ia32 _) fun _ =>
      .check (fun _ => lawful_raiseSel (by decide) _) fun _ => stopsLawfully_ok _

end

theorem readParameters_lawful (n : OpSize) (count : Nat) : StopsLawfully s (s.readParameters n count) := by
  cases count with
  | zero => exact stopsLawfully_ok _
  | succ c => exact (segAccess_lawful s _ _ _ _ _).map _

theorem openNewSlots_lawful (g : Segment) (n : Nat) (slots : List DWord) :
    StopsLawfully s (s.openNewSlots g n slots) := by
  induction slots with
  | nil => exact stopsLawfully_ok _
  | cons off slots ih =>
    exact (checkAlignment_lawful s _ _ _ _ _ _).bind fun _ _ => (translateAll_lawful s _ _).bind fun _ _ => ih.map _

theorem morePrivilege_lawful (ia32 : s.itaniumSE = false) (g : OpSize) (gate : QWord) (csel : Word) (c : QWord) :
    StopsLawfully s (morePrivilege g gate csel c s) :=
  (readTssStack_lawful s ia32 _).bind fun _ _ => (openNewStack_lawful s ia32 _ _).bind fun _ _ =>
    .check (fun _ => lawful_raiseSel (by decide) _) fun _ => .check (fun _ => lawful_gp0) fun _ =>
      (readParameters_lawful s _ _).bind fun _ _ => (openNewSlots_lawful s _ _ _).map _

theorem gateTarget_lawful (ia32 : s.itaniumSE = false) (g : OpSize) (gate : QWord) :
    StopsLawfully s (gateTarget g gate s) :=
  .check (fun _ => lawful_gp0) fun _ => .check (fun _ => lawful_raiseSel (by decide) _) fun _ =>
    (readDescriptor_lawful s _).bind fun c _ => .check (fun _ => lawful_raiseSel (by decide) _) fun _ =>
      .check (fun _ => lawful_raiseSel (by decide) _) fun _ => by
        cases !c.getLsbD 42 && decide ((descDpl c).toNat < s.cpl.toNat) with
        | true => exact morePrivilege_lawful s ia32 g gate _ c
        | false => exact callSegment_lawful s _ _ _ _

/-- The tests that gates and task state segments share: past them the environment is the IA-32 one (44_call.md R262). -/
theorem gateTests_lawful {α : Type} {denied absent : Bool} {sel : Word} {rest : Result α}
    (hrest : s.itaniumSE = false → StopsLawfully s rest) :
    StopsLawfully s (do
      stopIf denied (s.raiseSel .gp sel)
      stopIf absent (s.raiseSel .np sel)
      stopIf s.itaniumSE (s.raiseIntercept .gateCall)
      rest) :=
  .check (fun _ => lawful_raiseSel (by decide) _) fun _ => .check (fun _ => lawful_raiseSel (by decide) _) fun _ =>
    .check (fun itanium => lawful_raiseIntercept itanium _) hrest

theorem farCallGate_lawful (g : OpSize) (sel : Word) (gate : QWord) : StopsLawfully s (farCallGate g sel gate s) :=
  gateTests_lawful s fun ia32 => gateTarget_lawful s ia32 g gate

theorem farTaskGate_lawful (sel : Word) (gate : QWord) : StopsLawfully s (farTaskGate sel gate s) :=
  gateTests_lawful s fun ia32 => .check (fun _ => lawful_raiseSel (by decide) _) fun _ =>
    (readDescriptor_lawful s _).bind fun _ _ => .check (fun _ => lawful_raiseSel (by decide) _) fun _ =>
      .check (fun _ => lawful_raiseSel (by decide) _) fun _ => stopsLawfully_error fun _ => ia32

theorem farTss_lawful (sel : Word) (busy : Bool) (d : QWord) : StopsLawfully s (farTss sel busy d s) :=
  gateTests_lawful s fun ia32 => stopsLawfully_error fun _ => ia32

theorem readFarPointer_lawful (n : OpSize) (m : MemOp) : StopsLawfully s (s.readFarPointer n m) :=
  (memAccess_lawful s m _ _).map _

theorem farCall_lawful (n : OpSize) (sel : Word) (off : DWord) : StopsLawfully s (farCall n sel off s) := by
  unfold farCall
  cases s.protectedMode with
  | false => exact farReal_lawful s n sel off
  | true =>
    refine .check (fun _ => lawful_gp0) fun _ => .check (fun _ => lawful_raiseSel (by decide) _) fun _ =>
      (readDescriptor_lawful s _).bind fun d _ => ?_
    cases descKind d with
    | code => exact farCode_lawful s n sel off d
    | callGate g => exact farCallGate_lawful s g sel d
    | taskGate => exact farTaskGate_lawful s sel d
    | tss busy => exact farTss_lawful s sel busy d
    | data | other => exact stopsLawfully_error (lawful_raiseSel (by decide) _)

/-- Every instruction, by the operation that gives it its meaning. -/
theorem exec_lawful (i : Instr) : EndsLawfully s (exec i s) := by
  cases i with
  | adcAlIb | adcAxIw | adcEaxId | adcRm8Ib | adcRm16Iw | adcRm32Id | adcRm16Ib | adcRm32Ib | adcRm8R8 |
    adcRm16R16 | adcRm32R32 | adcR8Rm8 | adcR16Rm16 | adcR32Rm32 | addAlIb | addAxIw | addEaxId | addRm8Ib |
    addRm16Iw | addRm32Id | addRm16Ib | addRm32Ib | addRm8R8 | addRm16R16 | addRm32R32 | addR8Rm8 | addR16Rm16 |
    addR32Rm32 | andAlIb | andAxIw | andEaxId | andRm8Ib | andRm16Iw | andRm32Id | andRm16Ib | andRm32Ib | andRm8R8
  | andRm16R16 | andRm32R32 | andR8Rm8 | andR16Rm16 | andR32Rm32 => exact alu_lawful s _ _ _ _
  | cmpAlIb | cmpAxIw | cmpEaxId | cmpRm8Ib | cmpRm16Iw | cmpRm32Id | cmpRm16Ib | cmpRm32Ib | cmpRm8R8 |
    cmpRm16R16 | cmpRm32R32 | cmpR8Rm8 | cmpR16Rm16 | cmpR32Rm32 => exact cmp_lawful s _ _
  | decRm8 | decRm16 | decRm32 | decR16 | decR32 => exact dec_lawful s _ _
  | divRm8 | divRm16 | divRm32 => exact div_lawful s _ _ _ _
  | cmovO16 | cmovO32 | cmovNo16 | cmovNo32 | cmovB16 | cmovB32 | cmovAe16 | cmovAe32 | cmovE16 | cmovE32 |
    cmovNe16 | cmovNe32 | cmovBe16 | cmovBe32 | cmovA16 | cmovA32 | cmovS16 | cmovS32 | cmovNs16 | cmovNs32 |
    cmovP16 | cmovP32 | cmovNp16 | cmovNp32 | cmovL16 | cmovL32 | cmovGe16 | cmovGe32 | cmovLe16 | cmovLe32 |
    cmovG16 | cmovG32 => exact cmov_lawful s _ _ _
  | bsfR16Rm16 | bsfR32Rm32 | bsrR16Rm16 | bsrR32Rm32 => exact bitScan_lawful s _ _ _
  | btRm16R16 | btRm32R32 | btRm16Ib | btRm32Ib | btcRm16R16 | btcRm32R32 | btcRm16Ib | btcRm32Ib | btrRm16R16 |
    btrRm32R32 | btrRm16Ib | btrRm32Ib | btsRm16R16 | btsRm32R32 | btsRm16Ib | btsRm32Ib =>
    exact bitTest_lawful s _ _ _ _
  | cmpsb | cmpsw | cmpsd => exact cmps_lawful s _ _ _
  | cmpxchgRm8R8 | cmpxchgRm16R16 | cmpxchgRm32R32 => exact cmpxchg_lawful s _ _ _ _
  | boundR16 | boundR32 => exact bound_lawful s _ _
  | aaa | aas | aad | daa | das | cbw | cwde | cwd | cdq | cpuid => exact checkNat_ends s _ _
  | clc | cmc | cld => exact endsLawfully_next _
  | aam imm => exact execAam_lawful s imm
  | arpl rm r => exact execArpl_lawful s rm r
  | bswap size r => exact execBswap_lawful s size r
  | cmpxchg8b lock m => exact execCmpxchg8b_lawful s lock m
  | cli => exact execCli_lawful s
  | clts => exact execClts_lawful s
  | callRel16 | callRel32 => exact .of_stops <| (checkNat_lawful s _).bind fun _ _ => nearCall_lawful s _ _
  | callRm16 | callRm32 =>
    exact .of_stops <| (checkNat_lawful s _).bind fun _ _ => (readOperand_lawful s _).bind fun _ _ =>
      nearCall_lawful s _ _
  | callPtr16 | callPtr32 => exact .of_stops <| (checkNat_lawful s _).bind fun _ _ => farCall_lawful s _ _ _
  | callM16x16 | callM16x32 =>
    exact .of_stops <| (checkNat_lawful s _).bind fun _ _ => (readFarPointer_lawful s _ _).bind fun _ _ =>
      farCall_lawful s _ _ _

/-! ### The step -/

/-- Only the stored bytes are refused, and no task switch. -/
theorem fetchByte_lawful (k : Nat) : StopsLawfully s (s.fetchByte k) :=
  .check (fun _ => lawful_gp0) fun _ => (translate_lawful s _ _).bind fun _ _ => .check (fun _ => lawful_refused nofun)
    fun _ => stopsLawfully_ok _

theorem fetchWindow_lawful (n k : Nat) {e : Stop} (h : (s.fetchWindow n k).stop = some e) : e.Lawful s := by
  induction n generalizing k with
  | zero => cases h
  | succ n ih =>
    rw [State.fetchWindow] at h
    split at h
    · next e' he =>
      obtain rfl : e' = e := Option.some.inj h
      exact fetchByte_lawful s k e' he
    · exact ih _ h

theorem fetchInstr_lawful : StopsLawfully s s.fetchInstr := by
  unfold State.fetchInstr State.interpret
  split
  · exact stopsLawfully_ok _
  · split
    · next e he => exact stopsLawfully_error (fetchWindow_lawful s _ _ he)
    · exact stopsLawfully_error lawful_gp0
  · exact stopsLawfully_error (lawful_raise (by decide) _)
  · exact stopsLawfully_error (lawful_refused nofun)
  · exact stopsLawfully_error (lawful_refused nofun)

end

section
variable {s : State}

/-- The offset of the next instruction is no part of what a stop reports. -/
theorem EndsLawfully.of_nextPc {next : DWord} {o : Host.Outcome State Fault Refusal}
    (h : EndsLawfully { s with nextPc := next } o) : EndsLawfully s o := by
  intro e he
  have lawful := h e he
  cases e with
  | refused r => exact lawful
  | fault f => cases f <;> exact lawful

/-- What the step adds to an outcome is in the state that a trap carries, if anywhere. -/
theorem EndsLawfully.complete {o : Host.Outcome State Fault Refusal} (h : EndsLawfully s o) :
    EndsLawfully s (complete o) := by
  cases o with
  | next t => exact endsLawfully_next _
  | refused r => exact h
  | fault f =>
    cases f with
    | exception | intercept | itanium | runEnded => exact h
    | debugTrap t | systemFlagTrap t =>
      have itanium : s.itaniumSE = true := endsLawfully_fault.mp h
      exact endsLawfully_fault.mpr itanium

theorem highFpFault_iff :
    s.highFpFault = true ↔ s.itaniumSE = true ∧ s.firstAfterEntry = true ∧ s.psr.dfh = true := by
  simp [State.highFpFault, and_assoc]

/-- Every stop of a step is lawful. -/
theorem step_lawful : EndsLawfully s (step s) := by
  unfold step
  split
  · exact endsLawfully_fault.mpr trivial
  split
  · next hfp => exact .of_stops (stopsLawfully_error (lawful_raiseItanium (highFpFault_iff.mp hfp).1 _ _))
  split
  · next e he => exact .of_stops (stopsLawfully_error (fetchInstr_lawful s e he))
  · exact .complete (.of_nextPc (exec_lawful _ _))

theorem fault_lawful {f : Fault} (h : step s = .fault f) : (Stop.fault f).Lawful s := step_lawful _ h

theorem refusal_lawful {r : Refusal} (h : step s = .refused r) : (Stop.refused r).Lawful s := step_lawful _ h

/-! ### What stops a step before an instruction runs (60_exceptions.md R363, R364) -/

theorem atEnd_iff : s.atEnd = true ↔ s.cfg.endEip = some s.pc := beq_iff_eq

theorem atEnd_eq_false_iff : s.atEnd = false ↔ s.cfg.endEip ≠ some s.pc := by
  rw [← Bool.not_eq_true, atEnd_iff]

theorem step_of_atEnd (hend : s.atEnd = true) : step s = .fault .runEnded := if_pos hend

theorem step_of_highFpFault (hend : s.atEnd = false) (hfp : s.highFpFault = true) :
    step s = .fault (.itanium .disabledFpRegister s.pc none) := by
  simp [step, hend, hfp, State.raiseItanium]

/-- Where the bytes give no instruction, the step is what they give. -/
theorem step_of_uninterpreted {e : Stop} (hend : s.atEnd = false) (hfp : s.highFpFault = false)
    (h : s.interpret (s.fetchWindow maxLength 0) = .error e) : step s = toOutcome (.error e) := by
  simp [step, hend, hfp, State.fetchInstr, h]

section
variable {w : Window}

theorem interpret_stopped {e : Stop} (hd : decode s.codeSize w.bytes = .truncated) (hw : w.stop = some e) :
    s.interpret w = .error e := by
  simp [State.interpret, hd, hw]

theorem interpret_tooLong (hd : decode s.codeSize w.bytes = .truncated) (hw : w.stop = none) :
    s.interpret w = .error s.gp0 := by
  simp [State.interpret, hd, hw]

theorem interpret_undefined (hd : decode s.codeSize w.bytes = .undefined) : s.interpret w = .error (s.raise .ud) := by
  simp [State.interpret, hd]

theorem interpret_outOfScope {t : Bool} {o : Nat} (hd : decode s.codeSize w.bytes = .outOfScope t o) :
    s.interpret w = .error (.refused (.opcodeOutOfScope t o)) := by
  simp [State.interpret, hd]

theorem interpret_rep (hd : decode s.codeSize w.bytes = .rep) : s.interpret w = .error (.refused .repPrefix) := by
  simp [State.interpret, hd]

end

end

end Sys2Proof.Machine

section

open Sys2Proof Sys2Proof.Machine Sys2Proof.Claims

/-- Settles O18: every stop of a step is lawful, and so reports `s.pc` and has a lawful exception. -/
theorem faultsReportTheInstruction : Obligations.FaultsReportTheInstruction := by
  refine fun s => ⟨fun e code ip address h => ?_, fun k ip h => ?_, fun f ip address h => ?_⟩
  · obtain ⟨atPc, exc⟩ := fault_lawful h
    exact ⟨atPc, exc.raised, exc.coded⟩
  · exact (fault_lawful h).1
  · exact (fault_lawful h).1

/-- Settles O19: each lawful stop of the kinds named says its environment. -/
theorem environmentsSeparateEvents : Obligations.EnvironmentsSeparateEvents := by
  refine fun s => ⟨?itanium, fun ⟨code, ip, a, h⟩ => (fault_lawful h).2.pageFault rfl,
    fun ⟨code, ip, a, h⟩ => (fault_lawful h).2.invalidTss rfl, fun h => refusal_lawful h rfl⟩
  case itanium =>
    rintro (⟨k, ip, h⟩ | ⟨f, ip, a, h⟩ | ⟨t, h⟩ | ⟨t, h⟩)
    · exact (fault_lawful h).2
    · exact (fault_lawful h).2
    · exact fault_lawful h
    · exact fault_lawful h

/-- Settles O8: the checks of the step in their order, and what each outcome of the decoder means for it. -/
theorem stepStopsBeforeExecuting : Obligations.StepStopsBeforeExecuting := by
  refine fun s => ⟨fun hend => step_of_atEnd (atEnd_iff.mpr hend), fun hend itanium first dfh =>
    step_of_highFpFault (atEnd_eq_false_iff.mpr hend) (highFpFault_iff.mpr ⟨itanium, first, dfh⟩), fun hend hfp => ?_⟩
  have stops {e : Stop} (h : s.interpret (s.fetchWindow 15 0) = .error e) : step s = toOutcome (.error e) :=
    step_of_uninterpreted (atEnd_eq_false_iff.mpr hend) hfp h
  exact ⟨fun hd f hw => stops (interpret_stopped hd hw), fun hd hw => stops (interpret_tooLong hd hw),
    fun hd => stops (interpret_undefined hd), fun t o hd => stops (interpret_outOfScope hd),
    fun hd => stops (interpret_rep hd)⟩

end
